-- ==== Sys2Proof/Word.lean ====
section
/-! DEFINITION. Sys2Proof/Word.lean: the two widths of this hardware (00_scope.md R7, R13). `+` and `-` on either
type wrap modulo its width (R14); `toNat` is the spec's `unsigned`, `toInt` its `signed` and `msb` its top bit. -/

namespace Sys2Proof

/-- `Byte`: a bit vector of 8 bits (R13). -/
abbrev Byte := BitVec 8

/-- `Word`: a bit vector of 16 bits (R13). -/
abbrev Word := BitVec 16

end Sys2Proof
end

