-- ==== Sys2Proof/Syntax.lean ====
section
/-! DEFINITION. Sys2Proof/Syntax.lean: instruction tags, addressing modes, operands, and the instructions:
one constructor of `Instr` for each of the 151 rows of spec/opcode_table.json (30_encoding.md R67). -/

namespace Sys2Proof

/-- Instruction tag: "the name of an instruction kind (ADC, LDA, ...), independent of addressing mode" (glossary;
the 56 mnemonics of R67). -/
inductive Tag where
  | adc | and | asl | bcc | bcs | beq | bit | bmi | bne | bpl | brk | bvc | bvs | clc | cld
  | cli | clv | cmp | cpx | cpy | dec | dex | dey | eor | inc | inx | iny | jmp | jsr | lda
  | ldx | ldy | lsr | nop | ora | pha | php | pla | plp | rol | ror | rti | rts | sbc | sec
  | sed | sei | sta | stx | sty | tax | tay | tsx | txa | txs | tya
  deriving DecidableEq, Repr

/-- The thirteen addressing-mode tags of R49; "No other mode exists in the default table". -/
inductive Mode where
  | implied | accumulator | immediate | zeroPage | zeroPageX | zeroPageY | relative
  | absolute | absoluteX | absoluteY | indirect | indexedIndirectX | indirectIndexedY
  deriving DecidableEq, Repr

/-- A resolved operand has exactly one of three kinds (R50). -/
inductive Operand where
  /-- The value itself, with no extension or scaling. -/
  | immediate (v : Byte)
  /-- The address of the byte an instruction with semantics reads. -/
  | address (a : Word)
  /-- No operand. -/
  | implied
  deriving DecidableEq, Repr

/-- The instructions, one constructor per row of the opcode table: the mnemonic, then the mode (Imp, Acc, Imm, Zp,
Zpx, Zpy, Rel, Abs, Absx, Absy, Ind, Izx, Izy), with the row's operand bytes as they stand in memory (R48: `lo`
is byte 1 and `hi` is byte 2 of a three-byte instruction). -/
inductive Instr where
  -- ADC (R94)
  | adcIzx (ptr : Byte)
  | adcZp (zp : Byte)
  | adcImm (imm : Byte)
  | adcAbs (lo : Byte) (hi : Byte)
  | adcIzy (ptr : Byte)
  | adcZpx (zp : Byte)
  | adcAbsy (lo : Byte) (hi : Byte)
  | adcAbsx (lo : Byte) (hi : Byte)
  -- LDA (R95)
  | ldaIzx (ptr : Byte)
  | ldaZp (zp : Byte)
  | ldaImm (imm : Byte)
  | ldaAbs (lo : Byte) (hi : Byte)
  | ldaIzy (ptr : Byte)
  | ldaZpx (zp : Byte)
  | ldaAbsy (lo : Byte) (hi : Byte)
  | ldaAbsx (lo : Byte) (hi : Byte)
  -- LDX (R96)
  | ldxImm (imm : Byte)
  | ldxZp (zp : Byte)
  | ldxAbs (lo : Byte) (hi : Byte)
  | ldxZpy (zp : Byte)
  | ldxAbsy (lo : Byte) (hi : Byte)
  -- LDY (R97)
  | ldyImm (imm : Byte)
  | ldyZp (zp : Byte)
  | ldyAbs (lo : Byte) (hi : Byte)
  | ldyZpx (zp : Byte)
  | ldyAbsx (lo : Byte) (hi : Byte)
  -- DEX (R98)
  | dexImp
  -- NOP (R99)
  | nopImp
  -- AND (R100)
  | andIzx (ptr : Byte)
  | andZp (zp : Byte)
  | andImm (imm : Byte)
  | andAbs (lo : Byte) (hi : Byte)
  | andIzy (ptr : Byte)
  | andZpx (zp : Byte)
  | andAbsy (lo : Byte) (hi : Byte)
  | andAbsx (lo : Byte) (hi : Byte)
  -- ASL (R101)
  | aslZp (zp : Byte)
  | aslAcc
  | aslAbs (lo : Byte) (hi : Byte)
  | aslZpx (zp : Byte)
  | aslAbsx (lo : Byte) (hi : Byte)
  -- BCC (R102)
  | bccRel (offset : Byte)
  -- BCS (R103)
  | bcsRel (offset : Byte)
  -- BEQ (R104)
  | beqRel (offset : Byte)
  -- BIT (R105)
  | bitZp (zp : Byte)
  | bitAbs (lo : Byte) (hi : Byte)
  -- BMI (R106)
  | bmiRel (offset : Byte)
  -- BNE (R107)
  | bneRel (offset : Byte)
  -- BPL (R108)
  | bplRel (offset : Byte)
  -- BRK (R109)
  | brkImp
  -- BVC (R110)
  | bvcRel (offset : Byte)
  -- BVS (R111)
  | bvsRel (offset : Byte)
  -- CLC (R112)
  | clcImp
  -- CLD (R113)
  | cldImp
  -- CLI (R114)
  | cliImp
  -- CLV (R115)
  | clvImp
  -- CMP (R116)
  | cmpIzx (ptr : Byte)
  | cmpZp (zp : Byte)
  | cmpImm (imm : Byte)
  | cmpAbs (lo : Byte) (hi : Byte)
  | cmpIzy (ptr : Byte)
  | cmpZpx (zp : Byte)
  | cmpAbsy (lo : Byte) (hi : Byte)
  | cmpAbsx (lo : Byte) (hi : Byte)
  -- CPX (R117)
  | cpxImm (imm : Byte)
  | cpxZp (zp : Byte)
  | cpxAbs (lo : Byte) (hi : Byte)
  -- CPY (R118)
  | cpyImm (imm : Byte)
  | cpyZp (zp : Byte)
  | cpyAbs (lo : Byte) (hi : Byte)
  -- DEC (R119)
  | decZp (zp : Byte)
  | decAbs (lo : Byte) (hi : Byte)
  | decZpx (zp : Byte)
  | decAbsx (lo : Byte) (hi : Byte)
  -- DEY (R120)
  | deyImp
  -- EOR (R121)
  | eorIzx (ptr : Byte)
  | eorZp (zp : Byte)
  | eorImm (imm : Byte)
  | eorAbs (lo : Byte) (hi : Byte)
  | eorIzy (ptr : Byte)
  | eorZpx (zp : Byte)
  | eorAbsy (lo : Byte) (hi : Byte)
  | eorAbsx (lo : Byte) (hi : Byte)
  -- INC (R122)
  | incZp (zp : Byte)
  | incAbs (lo : Byte) (hi : Byte)
  | incZpx (zp : Byte)
  | incAbsx (lo : Byte) (hi : Byte)
  -- INX (R123)
  | inxImp
  -- INY (R124)
  | inyImp
  -- JMP (R125)
  | jmpAbs (lo : Byte) (hi : Byte)
  | jmpInd (lo : Byte) (hi : Byte)
  -- JSR (R126)
  | jsrAbs (lo : Byte) (hi : Byte)
  -- LSR (R127)
  | lsrZp (zp : Byte)
  | lsrAcc
  | lsrAbs (lo : Byte) (hi : Byte)
  | lsrZpx (zp : Byte)
  | lsrAbsx (lo : Byte) (hi : Byte)
  -- ORA (R128)
  | oraIzx (ptr : Byte)
  | oraZp (zp : Byte)
  | oraImm (imm : Byte)
  | oraAbs (lo : Byte) (hi : Byte)
  | oraIzy (ptr : Byte)
  | oraZpx (zp : Byte)
  | oraAbsy (lo : Byte) (hi : Byte)
  | oraAbsx (lo : Byte) (hi : Byte)
  -- PHA (R129)
  | phaImp
  -- PHP (R130)
  | phpImp
  -- PLA (R131)
  | plaImp
  -- PLP (R132)
  | plpImp
  -- ROL (R133)
  | rolZp (zp : Byte)
  | rolAcc
  | rolAbs (lo : Byte) (hi : Byte)
  | rolZpx (zp : Byte)
  | rolAbsx (lo : Byte) (hi : Byte)
  -- ROR (R134)
  | rorZp (zp : Byte)
  | rorAcc
  | rorAbs (lo : Byte) (hi : Byte)
  | rorZpx (zp : Byte)
  | rorAbsx (lo : Byte) (hi : Byte)
  -- RTI (R135)
  | rtiImp
  -- RTS (R136)
  | rtsImp
  -- SBC (R137)
  | sbcIzx (ptr : Byte)
  | sbcZp (zp : Byte)
  | sbcImm (imm : Byte)
  | sbcAbs (lo : Byte) (hi : Byte)
  | sbcIzy (ptr : Byte)
  | sbcZpx (zp : Byte)
  | sbcAbsy (lo : Byte) (hi : Byte)
  | sbcAbsx (lo : Byte) (hi : Byte)
  -- SEC (R138)
  | secImp
  -- SED (R139)
  | sedImp
  -- SEI (R140)
  | seiImp
  -- STA (R141)
  | staIzx (ptr : Byte)
  | staZp (zp : Byte)
  | staAbs (lo : Byte) (hi : Byte)
  | staIzy (ptr : Byte)
  | staZpx (zp : Byte)
  | staAbsy (lo : Byte) (hi : Byte)
  | staAbsx (lo : Byte) (hi : Byte)
  -- STX (R142)
  | stxZp (zp : Byte)
  | stxAbs (lo : Byte) (hi : Byte)
  | stxZpy (zp : Byte)
  -- STY (R143)
  | styZp (zp : Byte)
  | styAbs (lo : Byte) (hi : Byte)
  | styZpx (zp : Byte)
  -- TAX (R144)
  | taxImp
  -- TAY (R145)
  | tayImp
  -- TSX (R146)
  | tsxImp
  -- TXA (R147)
  | txaImp
  -- TXS (R148)
  | txsImp
  -- TYA (R149)
  | tyaImp
  deriving DecidableEq, Repr

/-- The tag of an instruction. -/
def Instr.tag : Instr → Tag
  | .adcIzx _ => .adc
  | .adcZp _ => .adc
  | .adcImm _ => .adc
  | .adcAbs _ _ => .adc
  | .adcIzy _ => .adc
  | .adcZpx _ => .adc
  | .adcAbsy _ _ => .adc
  | .adcAbsx _ _ => .adc
  | .ldaIzx _ => .lda
  | .ldaZp _ => .lda
  | .ldaImm _ => .lda
  | .ldaAbs _ _ => .lda
  | .ldaIzy _ => .lda
  | .ldaZpx _ => .lda
  | .ldaAbsy _ _ => .lda
  | .ldaAbsx _ _ => .lda
  | .ldxImm _ => .ldx
  | .ldxZp _ => .ldx
  | .ldxAbs _ _ => .ldx
  | .ldxZpy _ => .ldx
  | .ldxAbsy _ _ => .ldx
  | .ldyImm _ => .ldy
  | .ldyZp _ => .ldy
  | .ldyAbs _ _ => .ldy
  | .ldyZpx _ => .ldy
  | .ldyAbsx _ _ => .ldy
  | .dexImp => .dex
  | .nopImp => .nop
  | .andIzx _ => .and
  | .andZp _ => .and
  | .andImm _ => .and
  | .andAbs _ _ => .and
  | .andIzy _ => .and
  | .andZpx _ => .and
  | .andAbsy _ _ => .and
  | .andAbsx _ _ => .and
  | .aslZp _ => .asl
  | .aslAcc => .asl
  | .aslAbs _ _ => .asl
  | .aslZpx _ => .asl
  | .aslAbsx _ _ => .asl
  | .bccRel _ => .bcc
  | .bcsRel _ => .bcs
  | .beqRel _ => .beq
  | .bitZp _ => .bit
  | .bitAbs _ _ => .bit
  | .bmiRel _ => .bmi
  | .bneRel _ => .bne
  | .bplRel _ => .bpl
  | .brkImp => .brk
  | .bvcRel _ => .bvc
  | .bvsRel _ => .bvs
  | .clcImp => .clc
  | .cldImp => .cld
  | .cliImp => .cli
  | .clvImp => .clv
  | .cmpIzx _ => .cmp
  | .cmpZp _ => .cmp
  | .cmpImm _ => .cmp
  | .cmpAbs _ _ => .cmp
  | .cmpIzy _ => .cmp
  | .cmpZpx _ => .cmp
  | .cmpAbsy _ _ => .cmp
  | .cmpAbsx _ _ => .cmp
  | .cpxImm _ => .cpx
  | .cpxZp _ => .cpx
  | .cpxAbs _ _ => .cpx
  | .cpyImm _ => .cpy
  | .cpyZp _ => .cpy
  | .cpyAbs _ _ => .cpy
  | .decZp _ => .dec
  | .decAbs _ _ => .dec
  | .decZpx _ => .dec
  | .decAbsx _ _ => .dec
  | .deyImp => .dey
  | .eorIzx _ => .eor
  | .eorZp _ => .eor
  | .eorImm _ => .eor
  | .eorAbs _ _ => .eor
  | .eorIzy _ => .eor
  | .eorZpx _ => .eor
  | .eorAbsy _ _ => .eor
  | .eorAbsx _ _ => .eor
  | .incZp _ => .inc
  | .incAbs _ _ => .inc
  | .incZpx _ => .inc
  | .incAbsx _ _ => .inc
  | .inxImp => .inx
  | .inyImp => .iny
  | .jmpAbs _ _ => .jmp
  | .jmpInd _ _ => .jmp
  | .jsrAbs _ _ => .jsr
  | .lsrZp _ => .lsr
  | .lsrAcc => .lsr
  | .lsrAbs _ _ => .lsr
  | .lsrZpx _ => .lsr
  | .lsrAbsx _ _ => .lsr
  | .oraIzx _ => .ora
  | .oraZp _ => .ora
  | .oraImm _ => .ora
  | .oraAbs _ _ => .ora
  | .oraIzy _ => .ora
  | .oraZpx _ => .ora
  | .oraAbsy _ _ => .ora
  | .oraAbsx _ _ => .ora
  | .phaImp => .pha
  | .phpImp => .php
  | .plaImp => .pla
  | .plpImp => .plp
  | .rolZp _ => .rol
  | .rolAcc => .rol
  | .rolAbs _ _ => .rol
  | .rolZpx _ => .rol
  | .rolAbsx _ _ => .rol
  | .rorZp _ => .ror
  | .rorAcc => .ror
  | .rorAbs _ _ => .ror
  | .rorZpx _ => .ror
  | .rorAbsx _ _ => .ror
  | .rtiImp => .rti
  | .rtsImp => .rts
  | .sbcIzx _ => .sbc
  | .sbcZp _ => .sbc
  | .sbcImm _ => .sbc
  | .sbcAbs _ _ => .sbc
  | .sbcIzy _ => .sbc
  | .sbcZpx _ => .sbc
  | .sbcAbsy _ _ => .sbc
  | .sbcAbsx _ _ => .sbc
  | .secImp => .sec
  | .sedImp => .sed
  | .seiImp => .sei
  | .staIzx _ => .sta
  | .staZp _ => .sta
  | .staAbs _ _ => .sta
  | .staIzy _ => .sta
  | .staZpx _ => .sta
  | .staAbsy _ _ => .sta
  | .staAbsx _ _ => .sta
  | .stxZp _ => .stx
  | .stxAbs _ _ => .stx
  | .stxZpy _ => .stx
  | .styZp _ => .sty
  | .styAbs _ _ => .sty
  | .styZpx _ => .sty
  | .taxImp => .tax
  | .tayImp => .tay
  | .tsxImp => .tsx
  | .txaImp => .txa
  | .txsImp => .txs
  | .tyaImp => .tya

/-- The addressing mode of an instruction. -/
def Instr.mode : Instr → Mode
  | .adcIzx _ => .indexedIndirectX
  | .adcZp _ => .zeroPage
  | .adcImm _ => .immediate
  | .adcAbs _ _ => .absolute
  | .adcIzy _ => .indirectIndexedY
  | .adcZpx _ => .zeroPageX
  | .adcAbsy _ _ => .absoluteY
  | .adcAbsx _ _ => .absoluteX
  | .ldaIzx _ => .indexedIndirectX
  | .ldaZp _ => .zeroPage
  | .ldaImm _ => .immediate
  | .ldaAbs _ _ => .absolute
  | .ldaIzy _ => .indirectIndexedY
  | .ldaZpx _ => .zeroPageX
  | .ldaAbsy _ _ => .absoluteY
  | .ldaAbsx _ _ => .absoluteX
  | .ldxImm _ => .immediate
  | .ldxZp _ => .zeroPage
  | .ldxAbs _ _ => .absolute
  | .ldxZpy _ => .zeroPageY
  | .ldxAbsy _ _ => .absoluteY
  | .ldyImm _ => .immediate
  | .ldyZp _ => .zeroPage
  | .ldyAbs _ _ => .absolute
  | .ldyZpx _ => .zeroPageX
  | .ldyAbsx _ _ => .absoluteX
  | .dexImp => .implied
  | .nopImp => .implied
  | .andIzx _ => .indexedIndirectX
  | .andZp _ => .zeroPage
  | .andImm _ => .immediate
  | .andAbs _ _ => .absolute
  | .andIzy _ => .indirectIndexedY
  | .andZpx _ => .zeroPageX
  | .andAbsy _ _ => .absoluteY
  | .andAbsx _ _ => .absoluteX
  | .aslZp _ => .zeroPage
  | .aslAcc => .accumulator
  | .aslAbs _ _ => .absolute
  | .aslZpx _ => .zeroPageX
  | .aslAbsx _ _ => .absoluteX
  | .bccRel _ => .relative
  | .bcsRel _ => .relative
  | .beqRel _ => .relative
  | .bitZp _ => .zeroPage
  | .bitAbs _ _ => .absolute
  | .bmiRel _ => .relative
  | .bneRel _ => .relative
  | .bplRel _ => .relative
  | .brkImp => .implied
  | .bvcRel _ => .relative
  | .bvsRel _ => .relative
  | .clcImp => .implied
  | .cldImp => .implied
  | .cliImp => .implied
  | .clvImp => .implied
  | .cmpIzx _ => .indexedIndirectX
  | .cmpZp _ => .zeroPage
  | .cmpImm _ => .immediate
  | .cmpAbs _ _ => .absolute
  | .cmpIzy _ => .indirectIndexedY
  | .cmpZpx _ => .zeroPageX
  | .cmpAbsy _ _ => .absoluteY
  | .cmpAbsx _ _ => .absoluteX
  | .cpxImm _ => .immediate
  | .cpxZp _ => .zeroPage
  | .cpxAbs _ _ => .absolute
  | .cpyImm _ => .immediate
  | .cpyZp _ => .zeroPage
  | .cpyAbs _ _ => .absolute
  | .decZp _ => .zeroPage
  | .decAbs _ _ => .absolute
  | .decZpx _ => .zeroPageX
  | .decAbsx _ _ => .absoluteX
  | .deyImp => .implied
  | .eorIzx _ => .indexedIndirectX
  | .eorZp _ => .zeroPage
  | .eorImm _ => .immediate
  | .eorAbs _ _ => .absolute
  | .eorIzy _ => .indirectIndexedY
  | .eorZpx _ => .zeroPageX
  | .eorAbsy _ _ => .absoluteY
  | .eorAbsx _ _ => .absoluteX
  | .incZp _ => .zeroPage
  | .incAbs _ _ => .absolute
  | .incZpx _ => .zeroPageX
  | .incAbsx _ _ => .absoluteX
  | .inxImp => .implied
  | .inyImp => .implied
  | .jmpAbs _ _ => .absolute
  | .jmpInd _ _ => .indirect
  | .jsrAbs _ _ => .absolute
  | .lsrZp _ => .zeroPage
  | .lsrAcc => .accumulator
  | .lsrAbs _ _ => .absolute
  | .lsrZpx _ => .zeroPageX
  | .lsrAbsx _ _ => .absoluteX
  | .oraIzx _ => .indexedIndirectX
  | .oraZp _ => .zeroPage
  | .oraImm _ => .immediate
  | .oraAbs _ _ => .absolute
  | .oraIzy _ => .indirectIndexedY
  | .oraZpx _ => .zeroPageX
  | .oraAbsy _ _ => .absoluteY
  | .oraAbsx _ _ => .absoluteX
  | .phaImp => .implied
  | .phpImp => .implied
  | .plaImp => .implied
  | .plpImp => .implied
  | .rolZp _ => .zeroPage
  | .rolAcc => .accumulator
  | .rolAbs _ _ => .absolute
  | .rolZpx _ => .zeroPageX
  | .rolAbsx _ _ => .absoluteX
  | .rorZp _ => .zeroPage
  | .rorAcc => .accumulator
  | .rorAbs _ _ => .absolute
  | .rorZpx _ => .zeroPageX
  | .rorAbsx _ _ => .absoluteX
  | .rtiImp => .implied
  | .rtsImp => .implied
  | .sbcIzx _ => .indexedIndirectX
  | .sbcZp _ => .zeroPage
  | .sbcImm _ => .immediate
  | .sbcAbs _ _ => .absolute
  | .sbcIzy _ => .indirectIndexedY
  | .sbcZpx _ => .zeroPageX
  | .sbcAbsy _ _ => .absoluteY
  | .sbcAbsx _ _ => .absoluteX
  | .secImp => .implied
  | .sedImp => .implied
  | .seiImp => .implied
  | .staIzx _ => .indexedIndirectX
  | .staZp _ => .zeroPage
  | .staAbs _ _ => .absolute
  | .staIzy _ => .indirectIndexedY
  | .staZpx _ => .zeroPageX
  | .staAbsy _ _ => .absoluteY
  | .staAbsx _ _ => .absoluteX
  | .stxZp _ => .zeroPage
  | .stxAbs _ _ => .absolute
  | .stxZpy _ => .zeroPageY
  | .styZp _ => .zeroPage
  | .styAbs _ _ => .absolute
  | .styZpx _ => .zeroPageX
  | .taxImp => .implied
  | .tayImp => .implied
  | .tsxImp => .implied
  | .txaImp => .implied
  | .txsImp => .implied
  | .tyaImp => .implied

/-- The operand bytes of an instruction, in increasing address order (R48). -/
def Instr.operandBytes : Instr → List Byte
  | .adcIzx ptr => [ptr]
  | .adcZp zp => [zp]
  | .adcImm imm => [imm]
  | .adcAbs lo hi => [lo, hi]
  | .adcIzy ptr => [ptr]
  | .adcZpx zp => [zp]
  | .adcAbsy lo hi => [lo, hi]
  | .adcAbsx lo hi => [lo, hi]
  | .ldaIzx ptr => [ptr]
  | .ldaZp zp => [zp]
  | .ldaImm imm => [imm]
  | .ldaAbs lo hi => [lo, hi]
  | .ldaIzy ptr => [ptr]
  | .ldaZpx zp => [zp]
  | .ldaAbsy lo hi => [lo, hi]
  | .ldaAbsx lo hi => [lo, hi]
  | .ldxImm imm => [imm]
  | .ldxZp zp => [zp]
  | .ldxAbs lo hi => [lo, hi]
  | .ldxZpy zp => [zp]
  | .ldxAbsy lo hi => [lo, hi]
  | .ldyImm imm => [imm]
  | .ldyZp zp => [zp]
  | .ldyAbs lo hi => [lo, hi]
  | .ldyZpx zp => [zp]
  | .ldyAbsx lo hi => [lo, hi]
  | .dexImp => []
  | .nopImp => []
  | .andIzx ptr => [ptr]
  | .andZp zp => [zp]
  | .andImm imm => [imm]
  | .andAbs lo hi => [lo, hi]
  | .andIzy ptr => [ptr]
  | .andZpx zp => [zp]
  | .andAbsy lo hi => [lo, hi]
  | .andAbsx lo hi => [lo, hi]
  | .aslZp zp => [zp]
  | .aslAcc => []
  | .aslAbs lo hi => [lo, hi]
  | .aslZpx zp => [zp]
  | .aslAbsx lo hi => [lo, hi]
  | .bccRel offset => [offset]
  | .bcsRel offset => [offset]
  | .beqRel offset => [offset]
  | .bitZp zp => [zp]
  | .bitAbs lo hi => [lo, hi]
  | .bmiRel offset => [offset]
  | .bneRel offset => [offset]
  | .bplRel offset => [offset]
  | .brkImp => []
  | .bvcRel offset => [offset]
  | .bvsRel offset => [offset]
  | .clcImp => []
  | .cldImp => []
  | .cliImp => []
  | .clvImp => []
  | .cmpIzx ptr => [ptr]
  | .cmpZp zp => [zp]
  | .cmpImm imm => [imm]
  | .cmpAbs lo hi => [lo, hi]
  | .cmpIzy ptr => [ptr]
  | .cmpZpx zp => [zp]
  | .cmpAbsy lo hi => [lo, hi]
  | .cmpAbsx lo hi => [lo, hi]
  | .cpxImm imm => [imm]
  | .cpxZp zp => [zp]
  | .cpxAbs lo hi => [lo, hi]
  | .cpyImm imm => [imm]
  | .cpyZp zp => [zp]
  | .cpyAbs lo hi => [lo, hi]
  | .decZp zp => [zp]
  | .decAbs lo hi => [lo, hi]
  | .decZpx zp => [zp]
  | .decAbsx lo hi => [lo, hi]
  | .deyImp => []
  | .eorIzx ptr => [ptr]
  | .eorZp zp => [zp]
  | .eorImm imm => [imm]
  | .eorAbs lo hi => [lo, hi]
  | .eorIzy ptr => [ptr]
  | .eorZpx zp => [zp]
  | .eorAbsy lo hi => [lo, hi]
  | .eorAbsx lo hi => [lo, hi]
  | .incZp zp => [zp]
  | .incAbs lo hi => [lo, hi]
  | .incZpx zp => [zp]
  | .incAbsx lo hi => [lo, hi]
  | .inxImp => []
  | .inyImp => []
  | .jmpAbs lo hi => [lo, hi]
  | .jmpInd lo hi => [lo, hi]
  | .jsrAbs lo hi => [lo, hi]
  | .lsrZp zp => [zp]
  | .lsrAcc => []
  | .lsrAbs lo hi => [lo, hi]
  | .lsrZpx zp => [zp]
  | .lsrAbsx lo hi => [lo, hi]
  | .oraIzx ptr => [ptr]
  | .oraZp zp => [zp]
  | .oraImm imm => [imm]
  | .oraAbs lo hi => [lo, hi]
  | .oraIzy ptr => [ptr]
  | .oraZpx zp => [zp]
  | .oraAbsy lo hi => [lo, hi]
  | .oraAbsx lo hi => [lo, hi]
  | .phaImp => []
  | .phpImp => []
  | .plaImp => []
  | .plpImp => []
  | .rolZp zp => [zp]
  | .rolAcc => []
  | .rolAbs lo hi => [lo, hi]
  | .rolZpx zp => [zp]
  | .rolAbsx lo hi => [lo, hi]
  | .rorZp zp => [zp]
  | .rorAcc => []
  | .rorAbs lo hi => [lo, hi]
  | .rorZpx zp => [zp]
  | .rorAbsx lo hi => [lo, hi]
  | .rtiImp => []
  | .rtsImp => []
  | .sbcIzx ptr => [ptr]
  | .sbcZp zp => [zp]
  | .sbcImm imm => [imm]
  | .sbcAbs lo hi => [lo, hi]
  | .sbcIzy ptr => [ptr]
  | .sbcZpx zp => [zp]
  | .sbcAbsy lo hi => [lo, hi]
  | .sbcAbsx lo hi => [lo, hi]
  | .secImp => []
  | .sedImp => []
  | .seiImp => []
  | .staIzx ptr => [ptr]
  | .staZp zp => [zp]
  | .staAbs lo hi => [lo, hi]
  | .staIzy ptr => [ptr]
  | .staZpx zp => [zp]
  | .staAbsy lo hi => [lo, hi]
  | .staAbsx lo hi => [lo, hi]
  | .stxZp zp => [zp]
  | .stxAbs lo hi => [lo, hi]
  | .stxZpy zp => [zp]
  | .styZp zp => [zp]
  | .styAbs lo hi => [lo, hi]
  | .styZpx zp => [zp]
  | .taxImp => []
  | .tayImp => []
  | .tsxImp => []
  | .txaImp => []
  | .txsImp => []
  | .tyaImp => []

end Sys2Proof
end

