-- ==== Sys2Proof/Config.lean ====
section
/-! DEFINITION. Sys2Proof/Config.lean: the parameters of the model (00_scope.md R8 to R11), fixed for a machine. The
spec's defaults are definitions of Decode.lean (`t6502`, `extraBytes`) and Machine/ (`resolve`, `flagRule`), and
`defaultConfig` of Machine/Engine.lean puts them together. `Machine.step` runs at these defaults (logs 2, 3, 4). The one free value stands after them. -/

namespace Sys2Proof

/-- `FLAG_RULE`: which of the source's two statements of ADC's carry and overflow rules is followed (R10). -/
inductive FlagRule where
  /-- The normative default (R86, R87). -/
  | chip
  /-- The formulas of the source's section 4.3 as written (R88). -/
  | sourceLiteral
  deriving DecidableEq, Repr

/-- The parameters; `σ` is the Machine state, which the operand resolver may read (R9). The model has no other
parameters (R11). -/
structure Config (σ : Type) where
  /-- `OPCODE_TABLE` (R8). -/
  opcodeTable : Byte → Option (Tag × Mode)
  /-- `EXTRA` (R9). -/
  extra : Mode → Nat
  /-- `RESOLVE` (R9). -/
  resolve : Mode → σ → List Byte → Operand
  /-- `FLAG_RULE` (R10). -/
  flagRule : FlagRule

/-- What a dump of a Machine says beyond the accumulator, and in what words: a free value, for which nothing but
"accumulator value at minimum" is fixed (10_state.md R34 (b); 92_eei_decisions.md D13; log 18). -/
opaque freeDumpText {σ : Type} : σ → String

end Sys2Proof
end

