-- ==== Sys2Proof/Machine/State.lean ====
section
/-! DEFINITION. Sys2Proof/Machine/State.lean: the Machine (10_state.md R17): the register file (R18) and the memory
(R30), and why a step can stop. The spec gives the Machine no other state (R31). -/

namespace Sys2Proof.Machine

/-- Memory: the listed cells, by rising address, with no cell that holds 0x00; an unlisted address reads 0x00, the
reset contents (R30, R32; log 9). Its operations and its canonical form are in Machine/Ops.lean. -/
abbrev Memory := List Host.Cell

/-- The Machine (R17). -/
structure State where
  /-- `A`, the accumulator (R19). -/
  a : Byte
  /-- `X`, index_x (R20). -/
  x : Byte
  /-- `Y`, index_y (R21). -/
  y : Byte
  /-- `PC`, the program counter (R22). -/
  pc : Word
  /-- `P`, the status register (R23). -/
  p : Byte
  /-- `M`, the memory (R30). -/
  mem : Memory
  deriving DecidableEq, Repr

/-- The registers the register-file multiplexer selects among (R18). -/
inductive Reg where
  | a | x | y
  deriving DecidableEq, Repr

/-- The bits of P, from bit 7 down to bit 0 (R23). -/
inductive StatusBit where
  | n | v | unnamed | b | d | i | z | c
  deriving DecidableEq, Repr

/-- Why a step stops. The hardware has no fault (60_exceptions.md R150); the one stop is its own. -/
inductive Fault where
  /-- The spec's outcome `Halted` (40_cycle.md R73, R79): the byte at PC is not in the opcode table, nothing is
  written. `step` raises it. Safe: the hardware stops there too, in the state the step began with (log 1). -/
  | halted
  deriving DecidableEq, Repr

/-- Why the model has no answer. -/
inductive Refusal where
  /-- An instruction without a meaning. Safe. Nothing raises it: every constructor of `Instr` has its meaning. -/
  | notModelled (mnemonic : String)
  deriving DecidableEq, Repr

/-- What a meaning answers. -/
abbrev Result := Host.Outcome State Fault Refusal

/-- The Machine right after reset: "Created fresh with all registers zeroed and memory zero-filled" (R32; the entry
point is PC = 0x0000, no vector is read, 70_reset_and_hazards.md R164). -/
def State.reset : State := { a := 0x00, x := 0x00, y := 0x00, pc := 0x0000, p := 0x00, mem := [] }

end Sys2Proof.Machine
end

