-- ==== Sys2Proof/Machine/Ops.lean ====
section
/-! DEFINITION. Sys2Proof/Machine/Ops.lean: the named operations over memory and registers. This hardware takes no
exception and returns from none (60_exceptions.md R150, R155, R156), so there is no such operation here. -/

namespace Sys2Proof.Machine

/-- What an address the memory does not list reads as: the reset contents (10_state.md R30, R32). -/
def unwrittenByte : Byte := 0x00

/-- The byte the memory holds at a key. -/
def Memory.lookup : Memory → Nat → Byte
  | [], _ => unwrittenByte
  | (a, b) :: rest, k => if k = a then b else Memory.lookup rest k

/-- A cell in front of a memory, left out when it holds what an unlisted address reads as. -/
def Memory.cons (k : Nat) (v : Byte) (m : Memory) : Memory := if v = unwrittenByte then m else (k, v) :: m

/-- The memory with the byte at a key replaced. -/
def Memory.store : Memory → Nat → Byte → Memory
  | [], k, v => Memory.cons k v []
  | (a, b) :: rest, k, v =>
    if k < a then Memory.cons k v ((a, b) :: rest)
    else if k = a then Memory.cons k v rest
    else (a, b) :: Memory.store rest k v

/-- Canonical form from a lower bound on: keys strictly rising and below 2^16, no cell that could be left out. -/
def Memory.wfFrom : Nat → Memory → Bool
  | _, [] => true
  | low, (a, b) :: rest =>
    decide (low ≤ a) && decide (a < 65536) && (b != unwrittenByte) && Memory.wfFrom (a + 1) rest

/-- The canonical form: equal memories are equal lists (log 9). -/
def Memory.wf (m : Memory) : Bool := Memory.wfFrom 0 m

/-- `MemRead(a, 1)`, the collaborator's `get_byte`: total, without side effect (20_memory.md R35). -/
def memRead (m : Memory) (a : Word) : Byte := Memory.lookup m a.toNat

/-- `MemReadSlice(a, n)`, the collaborator's `get_slice`, each address modulo 2^16 (20_memory.md R36; log 5). -/
def memReadSlice (m : Memory) (a : Word) : Nat → List Byte
  | 0 => []
  | n + 1 => memRead m a :: memReadSlice m (a + 1) n

/-- `MemWrite(a, 1, v)`: only the host uses it (20_memory.md R37). -/
def memWrite (a : Word) (v : Byte) (s : State) : State := { s with mem := Memory.store s.mem a.toNat v }

/-- The host's writes of consecutive bytes, one after the other, from an address on. -/
def memWriteSlice (a : Word) : List Byte → State → State
  | [], s => s
  | b :: rest, s => memWriteSlice (a + 1) rest (memWrite a b s)

/-- `zext_16` of a byte (00_scope.md R13). -/
def zext16 (b : Byte) : Word := b.setWidth 16

/-- `hi ++ lo`, with `hi` in the more significant position (00_scope.md R12). -/
def concat (hi lo : Byte) : Word := hi ++ lo

/-- A register the multiplexer selects (10_state.md R18). -/
def readReg : Reg → State → Byte
  | .a, s => s.a
  | .x, s => s.x
  | .y, s => s.y

/-- `R <- v` for a register the multiplexer selects (10_state.md R18). -/
def writeReg (r : Reg) (v : Byte) (s : State) : State :=
  match r with
  | .a => { s with a := v }
  | .x => { s with x := v }
  | .y => { s with y := v }

/-- `PC <- PC + zext_16(n)`, modulo 2^16 (40_cycle.md R74; log 5). -/
def advancePc (n : Nat) (s : State) : State := { s with pc := s.pc + BitVec.ofNat 16 n }

end Sys2Proof.Machine
end

