-- ==== Sys2Proof/Machine/Flags.lean ====
section
/-! DEFINITION. Sys2Proof/Machine/Flags.lean: the bits of P, the masked replace, and the flag computations. -/

namespace Sys2Proof.Machine

/-- The position of a bit of P (10_state.md R23; log 7). -/
def StatusBit.position : StatusBit → Nat
  | .n => 7
  | .v => 6
  | .unnamed => 5
  | .b => 4
  | .d => 3
  | .i => 2
  | .z => 1
  | .c => 0

/-- The mask that holds one bit of P. -/
def StatusBit.mask (bit : StatusBit) : Byte := BitVec.ofNat 8 (2 ^ bit.position)

/-- `status.contains(bit)`. -/
def State.flag (s : State) (bit : StatusBit) : Bool := s.p.getLsbD bit.position

/-- A status byte with one bit set or with none. -/
def StatusBit.value (bit : StatusBit) (on : Bool) : Byte := if on then bit.mask else 0x00

/-- Masked replace: `(P AND NOT mask) OR (new AND mask)` (10_state.md R28). -/
def maskedReplace (mask new p : Byte) : Byte := (p &&& ~~~mask) ||| (new &&& mask)

/-- `SetFlags(mask, new)` (10_state.md R28). -/
def setFlags (mask new : Byte) (s : State) : State := { s with p := maskedReplace mask new s.p }

/-- is_zero: `v == 0x00` (41_alu_primitives.md R84). -/
def isZero (v : Byte) : Bool := v == 0x00

/-- is_negative: bit 7, the sign of the two's-complement reading (41_alu_primitives.md R84). -/
def isNegative (v : Byte) : Bool := v.msb

/-- The carry-in as a byte: `zext_8(c)` (41_alu_primitives.md R85). -/
def carryByte (c : Bool) : Byte := if c then 0x01 else 0x00

/-- The `FLAG_RULE` the machine runs under: the spec's normative default (00_scope.md R10, 90_conflicts.md C1, C2;
log 4). -/
def flagRule : FlagRule := .chip

/-- `CarryOut(a, v, c, r)` (41_alu_primitives.md R86 for `chip`, R88 for `sourceLiteral`). -/
def carryOut (rule : FlagRule) (a v : Byte) (c : Bool) (r : Byte) : Bool :=
  match rule with
  | .chip => decide (a.toNat + v.toNat + c.toNat ≥ 256)
  | .sourceLiteral => decide (r.toNat < a.toNat)

/-- `OverflowOut(a, v, r)` (41_alu_primitives.md R87 for `chip`, R88 for `sourceLiteral`). -/
def overflowOut (rule : FlagRule) (a v r : Byte) : Bool :=
  match rule with
  | .chip => a.msb == v.msb && r.msb != a.msb
  | .sourceLiteral =>
    (decide (a.toInt < 0) && decide (v.toInt < 0) && decide (r.toInt ≥ 0)) ||
    (decide (a.toInt > 0) && decide (v.toInt > 0) && decide (r.toInt ≤ 0))

end Sys2Proof.Machine
end

