-- ==== Sys2Proof/Decode.lean ====
section
/-! DEFINITION. Sys2Proof/Decode.lean: the opcode table T6502, the decoder (total on any bytes, rejecting by name)
and, after it, the encoder. Byte 0 is the opcode, the operand bytes follow in increasing address order (R48). -/

namespace Sys2Proof

/-- `EXTRA`: how many operand bytes a mode has (R49; 90_conflicts.md C5 settles Immediate). -/
def extraBytes : Mode → Nat
  | .implied | .accumulator => 0
  | .immediate | .zeroPage | .zeroPageX | .zeroPageY | .relative | .indexedIndirectX | .indirectIndexedY => 1
  | .absolute | .absoluteX | .absoluteY | .indirect => 2

/-- One cell of the default opcode table: no entry, or an instruction of one of the three formats (R48). -/
inductive Cell where
  /-- Not in the table (R68). -/
  | undefined
  /-- Format F1: the opcode byte alone. -/
  | f1 (i : Instr)
  /-- Format F2: one operand byte. -/
  | f2 (make : Byte → Instr)
  /-- Format F3: the low, then the high byte of a 16-bit address. -/
  | f3 (make : Byte → Byte → Instr)

/-- Row 0x of the opcode map (R67), low nibble 0 to F. -/
def cells0 : List Cell := [
  .f1 .brkImp, .f2 .oraIzx, .undefined, .undefined, .undefined, .f2 .oraZp, .f2 .aslZp,
  .undefined, .f1 .phpImp, .f2 .oraImm, .f1 .aslAcc, .undefined, .undefined, .f3 .oraAbs,
  .f3 .aslAbs, .undefined]

/-- Row 1x of the opcode map (R67), low nibble 0 to F. -/
def cells1 : List Cell := [
  .f2 .bplRel, .f2 .oraIzy, .undefined, .undefined, .undefined, .f2 .oraZpx, .f2 .aslZpx,
  .undefined, .f1 .clcImp, .f3 .oraAbsy, .undefined, .undefined, .undefined, .f3 .oraAbsx,
  .f3 .aslAbsx, .undefined]

/-- Row 2x of the opcode map (R67), low nibble 0 to F. -/
def cells2 : List Cell := [
  .f3 .jsrAbs, .f2 .andIzx, .undefined, .undefined, .f2 .bitZp, .f2 .andZp, .f2 .rolZp,
  .undefined, .f1 .plpImp, .f2 .andImm, .f1 .rolAcc, .undefined, .f3 .bitAbs, .f3 .andAbs,
  .f3 .rolAbs, .undefined]

/-- Row 3x of the opcode map (R67), low nibble 0 to F. -/
def cells3 : List Cell := [
  .f2 .bmiRel, .f2 .andIzy, .undefined, .undefined, .undefined, .f2 .andZpx, .f2 .rolZpx,
  .undefined, .f1 .secImp, .f3 .andAbsy, .undefined, .undefined, .undefined, .f3 .andAbsx,
  .f3 .rolAbsx, .undefined]

/-- Row 4x of the opcode map (R67), low nibble 0 to F. -/
def cells4 : List Cell := [
  .f1 .rtiImp, .f2 .eorIzx, .undefined, .undefined, .undefined, .f2 .eorZp, .f2 .lsrZp,
  .undefined, .f1 .phaImp, .f2 .eorImm, .f1 .lsrAcc, .undefined, .f3 .jmpAbs, .f3 .eorAbs,
  .f3 .lsrAbs, .undefined]

/-- Row 5x of the opcode map (R67), low nibble 0 to F. -/
def cells5 : List Cell := [
  .f2 .bvcRel, .f2 .eorIzy, .undefined, .undefined, .undefined, .f2 .eorZpx, .f2 .lsrZpx,
  .undefined, .f1 .cliImp, .f3 .eorAbsy, .undefined, .undefined, .undefined, .f3 .eorAbsx,
  .f3 .lsrAbsx, .undefined]

/-- Row 6x of the opcode map (R67), low nibble 0 to F. -/
def cells6 : List Cell := [
  .f1 .rtsImp, .f2 .adcIzx, .undefined, .undefined, .undefined, .f2 .adcZp, .f2 .rorZp,
  .undefined, .f1 .plaImp, .f2 .adcImm, .f1 .rorAcc, .undefined, .f3 .jmpInd, .f3 .adcAbs,
  .f3 .rorAbs, .undefined]

/-- Row 7x of the opcode map (R67), low nibble 0 to F. -/
def cells7 : List Cell := [
  .f2 .bvsRel, .f2 .adcIzy, .undefined, .undefined, .undefined, .f2 .adcZpx, .f2 .rorZpx,
  .undefined, .f1 .seiImp, .f3 .adcAbsy, .undefined, .undefined, .undefined, .f3 .adcAbsx,
  .f3 .rorAbsx, .undefined]

/-- Row 8x of the opcode map (R67), low nibble 0 to F. -/
def cells8 : List Cell := [
  .undefined, .f2 .staIzx, .undefined, .undefined, .f2 .styZp, .f2 .staZp, .f2 .stxZp,
  .undefined, .f1 .deyImp, .undefined, .f1 .txaImp, .undefined, .f3 .styAbs, .f3 .staAbs,
  .f3 .stxAbs, .undefined]

/-- Row 9x of the opcode map (R67), low nibble 0 to F. -/
def cells9 : List Cell := [
  .f2 .bccRel, .f2 .staIzy, .undefined, .undefined, .f2 .styZpx, .f2 .staZpx, .f2 .stxZpy,
  .undefined, .f1 .tyaImp, .f3 .staAbsy, .f1 .txsImp, .undefined, .undefined, .f3 .staAbsx,
  .undefined, .undefined]

/-- Row Ax of the opcode map (R67), low nibble 0 to F. -/
def cellsA : List Cell := [
  .f2 .ldyImm, .f2 .ldaIzx, .f2 .ldxImm, .undefined, .f2 .ldyZp, .f2 .ldaZp, .f2 .ldxZp,
  .undefined, .f1 .tayImp, .f2 .ldaImm, .f1 .taxImp, .undefined, .f3 .ldyAbs, .f3 .ldaAbs,
  .f3 .ldxAbs, .undefined]

/-- Row Bx of the opcode map (R67), low nibble 0 to F. -/
def cellsB : List Cell := [
  .f2 .bcsRel, .f2 .ldaIzy, .undefined, .undefined, .f2 .ldyZpx, .f2 .ldaZpx, .f2 .ldxZpy,
  .undefined, .f1 .clvImp, .f3 .ldaAbsy, .f1 .tsxImp, .undefined, .f3 .ldyAbsx,
  .f3 .ldaAbsx, .f3 .ldxAbsy, .undefined]

/-- Row Cx of the opcode map (R67), low nibble 0 to F. -/
def cellsC : List Cell := [
  .f2 .cpyImm, .f2 .cmpIzx, .undefined, .undefined, .f2 .cpyZp, .f2 .cmpZp, .f2 .decZp,
  .undefined, .f1 .inyImp, .f2 .cmpImm, .f1 .dexImp, .undefined, .f3 .cpyAbs, .f3 .cmpAbs,
  .f3 .decAbs, .undefined]

/-- Row Dx of the opcode map (R67), low nibble 0 to F. -/
def cellsD : List Cell := [
  .f2 .bneRel, .f2 .cmpIzy, .undefined, .undefined, .undefined, .f2 .cmpZpx, .f2 .decZpx,
  .undefined, .f1 .cldImp, .f3 .cmpAbsy, .undefined, .undefined, .undefined, .f3 .cmpAbsx,
  .f3 .decAbsx, .undefined]

/-- Row Ex of the opcode map (R67), low nibble 0 to F. -/
def cellsE : List Cell := [
  .f2 .cpxImm, .f2 .sbcIzx, .undefined, .undefined, .f2 .cpxZp, .f2 .sbcZp, .f2 .incZp,
  .undefined, .f1 .inxImp, .f2 .sbcImm, .f1 .nopImp, .undefined, .f3 .cpxAbs, .f3 .sbcAbs,
  .f3 .incAbs, .undefined]

/-- Row Fx of the opcode map (R67), low nibble 0 to F. -/
def cellsF : List Cell := [
  .f2 .beqRel, .f2 .sbcIzy, .undefined, .undefined, .undefined, .f2 .sbcZpx, .f2 .incZpx,
  .undefined, .f1 .sedImp, .f3 .sbcAbsy, .undefined, .undefined, .undefined, .f3 .sbcAbsx,
  .f3 .incAbsx, .undefined]

/-- The default opcode map T6502: row = high nibble, column = low nibble (R67). -/
def opcodeMap : List (List Cell) :=
  [cells0, cells1, cells2, cells3] ++ [cells4, cells5, cells6, cells7] ++
  [cells8, cells9, cellsA, cellsB] ++ [cellsC, cellsD, cellsE, cellsF]

/-- The whole opcode byte is the table's index (R66). -/
def opcodeCell (op : Byte) : Cell :=
  (opcodeMap.getD (op.toNat / 16) []).getD (op.toNat % 16) .undefined

/-- How many operand bytes an instruction of this cell has; none for an undefined byte, which has no length (R70). -/
def Cell.operandCount : Cell → Option Nat
  | .undefined => none
  | .f1 _ => some 0
  | .f2 _ => some 1
  | .f3 _ => some 2

/-- Why bytes are no instruction (log 16). -/
inductive Reject where
  /-- The opcode byte is not in the table (R68): at the machine's PC this is the halt signal. -/
  | undefinedOpcode (op : Byte)
  /-- The list ends before the instruction's operand bytes; the machine's own fetch never meets this. -/
  | truncated (op : Byte)
  /-- There is no byte at all; the machine's own fetch never meets this. -/
  | noBytes
  deriving DecidableEq, Repr

/-- The instruction a cell makes of the bytes after its opcode byte `op`, and the bytes after the instruction (R48). -/
def Cell.make (op : Byte) : Cell → List Byte → Except Reject (Instr × List Byte)
  | .undefined, _ => .error (.undefinedOpcode op)
  | .f1 i, rest => .ok (i, rest)
  | .f2 make, b0 :: rest => .ok (make b0, rest)
  | .f2 _, [] => .error (.truncated op)
  | .f3 make, b0 :: b1 :: rest => .ok (make b0 b1, rest)
  | .f3 _, [_] => .error (.truncated op)
  | .f3 _, [] => .error (.truncated op)

/-- The instruction at the head of a list of bytes, and the bytes after it (R48, R66). -/
def decode : List Byte → Except Reject (Instr × List Byte)
  | [] => .error .noBytes
  | op :: rest => (opcodeCell op).make op rest

/-- The opcode byte of an instruction (R67 and the *Encoding* lines of R94 to R149). -/
def Instr.opcode : Instr → Byte
  | .adcIzx _ => 0x61
  | .adcZp _ => 0x65
  | .adcImm _ => 0x69
  | .adcAbs _ _ => 0x6D
  | .adcIzy _ => 0x71
  | .adcZpx _ => 0x75
  | .adcAbsy _ _ => 0x79
  | .adcAbsx _ _ => 0x7D
  | .ldaIzx _ => 0xA1
  | .ldaZp _ => 0xA5
  | .ldaImm _ => 0xA9
  | .ldaAbs _ _ => 0xAD
  | .ldaIzy _ => 0xB1
  | .ldaZpx _ => 0xB5
  | .ldaAbsy _ _ => 0xB9
  | .ldaAbsx _ _ => 0xBD
  | .ldxImm _ => 0xA2
  | .ldxZp _ => 0xA6
  | .ldxAbs _ _ => 0xAE
  | .ldxZpy _ => 0xB6
  | .ldxAbsy _ _ => 0xBE
  | .ldyImm _ => 0xA0
  | .ldyZp _ => 0xA4
  | .ldyAbs _ _ => 0xAC
  | .ldyZpx _ => 0xB4
  | .ldyAbsx _ _ => 0xBC
  | .dexImp => 0xCA
  | .nopImp => 0xEA
  | .andIzx _ => 0x21
  | .andZp _ => 0x25
  | .andImm _ => 0x29
  | .andAbs _ _ => 0x2D
  | .andIzy _ => 0x31
  | .andZpx _ => 0x35
  | .andAbsy _ _ => 0x39
  | .andAbsx _ _ => 0x3D
  | .aslZp _ => 0x06
  | .aslAcc => 0x0A
  | .aslAbs _ _ => 0x0E
  | .aslZpx _ => 0x16
  | .aslAbsx _ _ => 0x1E
  | .bccRel _ => 0x90
  | .bcsRel _ => 0xB0
  | .beqRel _ => 0xF0
  | .bitZp _ => 0x24
  | .bitAbs _ _ => 0x2C
  | .bmiRel _ => 0x30
  | .bneRel _ => 0xD0
  | .bplRel _ => 0x10
  | .brkImp => 0x00
  | .bvcRel _ => 0x50
  | .bvsRel _ => 0x70
  | .clcImp => 0x18
  | .cldImp => 0xD8
  | .cliImp => 0x58
  | .clvImp => 0xB8
  | .cmpIzx _ => 0xC1
  | .cmpZp _ => 0xC5
  | .cmpImm _ => 0xC9
  | .cmpAbs _ _ => 0xCD
  | .cmpIzy _ => 0xD1
  | .cmpZpx _ => 0xD5
  | .cmpAbsy _ _ => 0xD9
  | .cmpAbsx _ _ => 0xDD
  | .cpxImm _ => 0xE0
  | .cpxZp _ => 0xE4
  | .cpxAbs _ _ => 0xEC
  | .cpyImm _ => 0xC0
  | .cpyZp _ => 0xC4
  | .cpyAbs _ _ => 0xCC
  | .decZp _ => 0xC6
  | .decAbs _ _ => 0xCE
  | .decZpx _ => 0xD6
  | .decAbsx _ _ => 0xDE
  | .deyImp => 0x88
  | .eorIzx _ => 0x41
  | .eorZp _ => 0x45
  | .eorImm _ => 0x49
  | .eorAbs _ _ => 0x4D
  | .eorIzy _ => 0x51
  | .eorZpx _ => 0x55
  | .eorAbsy _ _ => 0x59
  | .eorAbsx _ _ => 0x5D
  | .incZp _ => 0xE6
  | .incAbs _ _ => 0xEE
  | .incZpx _ => 0xF6
  | .incAbsx _ _ => 0xFE
  | .inxImp => 0xE8
  | .inyImp => 0xC8
  | .jmpAbs _ _ => 0x4C
  | .jmpInd _ _ => 0x6C
  | .jsrAbs _ _ => 0x20
  | .lsrZp _ => 0x46
  | .lsrAcc => 0x4A
  | .lsrAbs _ _ => 0x4E
  | .lsrZpx _ => 0x56
  | .lsrAbsx _ _ => 0x5E
  | .oraIzx _ => 0x01
  | .oraZp _ => 0x05
  | .oraImm _ => 0x09
  | .oraAbs _ _ => 0x0D
  | .oraIzy _ => 0x11
  | .oraZpx _ => 0x15
  | .oraAbsy _ _ => 0x19
  | .oraAbsx _ _ => 0x1D
  | .phaImp => 0x48
  | .phpImp => 0x08
  | .plaImp => 0x68
  | .plpImp => 0x28
  | .rolZp _ => 0x26
  | .rolAcc => 0x2A
  | .rolAbs _ _ => 0x2E
  | .rolZpx _ => 0x36
  | .rolAbsx _ _ => 0x3E
  | .rorZp _ => 0x66
  | .rorAcc => 0x6A
  | .rorAbs _ _ => 0x6E
  | .rorZpx _ => 0x76
  | .rorAbsx _ _ => 0x7E
  | .rtiImp => 0x40
  | .rtsImp => 0x60
  | .sbcIzx _ => 0xE1
  | .sbcZp _ => 0xE5
  | .sbcImm _ => 0xE9
  | .sbcAbs _ _ => 0xED
  | .sbcIzy _ => 0xF1
  | .sbcZpx _ => 0xF5
  | .sbcAbsy _ _ => 0xF9
  | .sbcAbsx _ _ => 0xFD
  | .secImp => 0x38
  | .sedImp => 0xF8
  | .seiImp => 0x78
  | .staIzx _ => 0x81
  | .staZp _ => 0x85
  | .staAbs _ _ => 0x8D
  | .staIzy _ => 0x91
  | .staZpx _ => 0x95
  | .staAbsy _ _ => 0x99
  | .staAbsx _ _ => 0x9D
  | .stxZp _ => 0x86
  | .stxAbs _ _ => 0x8E
  | .stxZpy _ => 0x96
  | .styZp _ => 0x84
  | .styAbs _ _ => 0x8C
  | .styZpx _ => 0x94
  | .taxImp => 0xAA
  | .tayImp => 0xA8
  | .tsxImp => 0xBA
  | .txaImp => 0x8A
  | .txsImp => 0x9A
  | .tyaImp => 0x98

/-- The bytes of an instruction: its opcode byte, then its operand bytes (R48). -/
def encode (i : Instr) : List Byte := i.opcode :: i.operandBytes

/-- The length of an instruction in bytes (R48). -/
def Instr.length (i : Instr) : Nat := 1 + extraBytes i.mode

/-- Byte `k` of an instruction whose bits are `w`, numbered as spec/opcode_table.json numbers them: bit 0 is the
least significant bit of the first byte, and every bit from `nbits` on is 0. -/
def tableByte (nbits w k : Nat) : Byte := BitVec.ofNat 8 ((w % 2 ^ nbits) / 256 ^ k)

/-- The three bytes (the longest instruction) of such a word, in increasing address order. -/
def tableBytes (nbits w : Nat) : List Byte := [tableByte nbits w 0, tableByte nbits w 1, tableByte nbits w 2]

/-- What the decoder reads from an instruction whose bits are `w`. -/
def decodeTableWord (nbits w : Nat) : Option Instr :=
  match decode (tableBytes nbits w) with
  | .ok (i, _) => some i
  | .error _ => none

/-- Row 0x of R67 as (tag, mode) pairs. -/
def t6502Row0 : List (Option (Tag × Mode)) := [
  some (.brk, .implied), some (.ora, .indexedIndirectX), none, none, none,
  some (.ora, .zeroPage), some (.asl, .zeroPage), none, some (.php, .implied),
  some (.ora, .immediate), some (.asl, .accumulator), none, none, some (.ora, .absolute),
  some (.asl, .absolute), none]

/-- Row 1x of R67 as (tag, mode) pairs. -/
def t6502Row1 : List (Option (Tag × Mode)) := [
  some (.bpl, .relative), some (.ora, .indirectIndexedY), none, none, none,
  some (.ora, .zeroPageX), some (.asl, .zeroPageX), none, some (.clc, .implied),
  some (.ora, .absoluteY), none, none, none, some (.ora, .absoluteX),
  some (.asl, .absoluteX), none]

/-- Row 2x of R67 as (tag, mode) pairs. -/
def t6502Row2 : List (Option (Tag × Mode)) := [
  some (.jsr, .absolute), some (.and, .indexedIndirectX), none, none,
  some (.bit, .zeroPage), some (.and, .zeroPage), some (.rol, .zeroPage), none,
  some (.plp, .implied), some (.and, .immediate), some (.rol, .accumulator), none,
  some (.bit, .absolute), some (.and, .absolute), some (.rol, .absolute), none]

/-- Row 3x of R67 as (tag, mode) pairs. -/
def t6502Row3 : List (Option (Tag × Mode)) := [
  some (.bmi, .relative), some (.and, .indirectIndexedY), none, none, none,
  some (.and, .zeroPageX), some (.rol, .zeroPageX), none, some (.sec, .implied),
  some (.and, .absoluteY), none, none, none, some (.and, .absoluteX),
  some (.rol, .absoluteX), none]

/-- Row 4x of R67 as (tag, mode) pairs. -/
def t6502Row4 : List (Option (Tag × Mode)) := [
  some (.rti, .implied), some (.eor, .indexedIndirectX), none, none, none,
  some (.eor, .zeroPage), some (.lsr, .zeroPage), none, some (.pha, .implied),
  some (.eor, .immediate), some (.lsr, .accumulator), none, some (.jmp, .absolute),
  some (.eor, .absolute), some (.lsr, .absolute), none]

/-- Row 5x of R67 as (tag, mode) pairs. -/
def t6502Row5 : List (Option (Tag × Mode)) := [
  some (.bvc, .relative), some (.eor, .indirectIndexedY), none, none, none,
  some (.eor, .zeroPageX), some (.lsr, .zeroPageX), none, some (.cli, .implied),
  some (.eor, .absoluteY), none, none, none, some (.eor, .absoluteX),
  some (.lsr, .absoluteX), none]

/-- Row 6x of R67 as (tag, mode) pairs. -/
def t6502Row6 : List (Option (Tag × Mode)) := [
  some (.rts, .implied), some (.adc, .indexedIndirectX), none, none, none,
  some (.adc, .zeroPage), some (.ror, .zeroPage), none, some (.pla, .implied),
  some (.adc, .immediate), some (.ror, .accumulator), none, some (.jmp, .indirect),
  some (.adc, .absolute), some (.ror, .absolute), none]

/-- Row 7x of R67 as (tag, mode) pairs. -/
def t6502Row7 : List (Option (Tag × Mode)) := [
  some (.bvs, .relative), some (.adc, .indirectIndexedY), none, none, none,
  some (.adc, .zeroPageX), some (.ror, .zeroPageX), none, some (.sei, .implied),
  some (.adc, .absoluteY), none, none, none, some (.adc, .absoluteX),
  some (.ror, .absoluteX), none]

/-- Row 8x of R67 as (tag, mode) pairs. -/
def t6502Row8 : List (Option (Tag × Mode)) := [
  none, some (.sta, .indexedIndirectX), none, none, some (.sty, .zeroPage),
  some (.sta, .zeroPage), some (.stx, .zeroPage), none, some (.dey, .implied), none,
  some (.txa, .implied), none, some (.sty, .absolute), some (.sta, .absolute),
  some (.stx, .absolute), none]

/-- Row 9x of R67 as (tag, mode) pairs. -/
def t6502Row9 : List (Option (Tag × Mode)) := [
  some (.bcc, .relative), some (.sta, .indirectIndexedY), none, none,
  some (.sty, .zeroPageX), some (.sta, .zeroPageX), some (.stx, .zeroPageY), none,
  some (.tya, .implied), some (.sta, .absoluteY), some (.txs, .implied), none, none,
  some (.sta, .absoluteX), none, none]

/-- Row Ax of R67 as (tag, mode) pairs. -/
def t6502RowA : List (Option (Tag × Mode)) := [
  some (.ldy, .immediate), some (.lda, .indexedIndirectX), some (.ldx, .immediate), none,
  some (.ldy, .zeroPage), some (.lda, .zeroPage), some (.ldx, .zeroPage), none,
  some (.tay, .implied), some (.lda, .immediate), some (.tax, .implied), none,
  some (.ldy, .absolute), some (.lda, .absolute), some (.ldx, .absolute), none]

/-- Row Bx of R67 as (tag, mode) pairs. -/
def t6502RowB : List (Option (Tag × Mode)) := [
  some (.bcs, .relative), some (.lda, .indirectIndexedY), none, none,
  some (.ldy, .zeroPageX), some (.lda, .zeroPageX), some (.ldx, .zeroPageY), none,
  some (.clv, .implied), some (.lda, .absoluteY), some (.tsx, .implied), none,
  some (.ldy, .absoluteX), some (.lda, .absoluteX), some (.ldx, .absoluteY), none]

/-- Row Cx of R67 as (tag, mode) pairs. -/
def t6502RowC : List (Option (Tag × Mode)) := [
  some (.cpy, .immediate), some (.cmp, .indexedIndirectX), none, none,
  some (.cpy, .zeroPage), some (.cmp, .zeroPage), some (.dec, .zeroPage), none,
  some (.iny, .implied), some (.cmp, .immediate), some (.dex, .implied), none,
  some (.cpy, .absolute), some (.cmp, .absolute), some (.dec, .absolute), none]

/-- Row Dx of R67 as (tag, mode) pairs. -/
def t6502RowD : List (Option (Tag × Mode)) := [
  some (.bne, .relative), some (.cmp, .indirectIndexedY), none, none, none,
  some (.cmp, .zeroPageX), some (.dec, .zeroPageX), none, some (.cld, .implied),
  some (.cmp, .absoluteY), none, none, none, some (.cmp, .absoluteX),
  some (.dec, .absoluteX), none]

/-- Row Ex of R67 as (tag, mode) pairs. -/
def t6502RowE : List (Option (Tag × Mode)) := [
  some (.cpx, .immediate), some (.sbc, .indexedIndirectX), none, none,
  some (.cpx, .zeroPage), some (.sbc, .zeroPage), some (.inc, .zeroPage), none,
  some (.inx, .implied), some (.sbc, .immediate), some (.nop, .implied), none,
  some (.cpx, .absolute), some (.sbc, .absolute), some (.inc, .absolute), none]

/-- Row Fx of R67 as (tag, mode) pairs. -/
def t6502RowF : List (Option (Tag × Mode)) := [
  some (.beq, .relative), some (.sbc, .indirectIndexedY), none, none, none,
  some (.sbc, .zeroPageX), some (.inc, .zeroPageX), none, some (.sed, .implied),
  some (.sbc, .absoluteY), none, none, none, some (.sbc, .absoluteX),
  some (.inc, .absoluteX), none]

/-- The default `OPCODE_TABLE` in the source's own form, "A total function from 8-bit opcode to optional
(instruction tag, addressing-mode tag)" (00_scope.md R8, R67). The parameterised engine of Machine/Engine.lean
reads it; it is written apart from `opcodeMap`, and Laws/Decode.lean proves that the two agree on all 256 bytes. -/
def t6502 (op : Byte) : Option (Tag × Mode) :=
  (([t6502Row0, t6502Row1, t6502Row2, t6502Row3] ++ [t6502Row4, t6502Row5, t6502Row6, t6502Row7] ++
    [t6502Row8, t6502Row9, t6502RowA, t6502RowB] ++
    [t6502RowC, t6502RowD, t6502RowE, t6502RowF]).getD (op.toNat / 16) []).getD (op.toNat % 16) none

end Sys2Proof
end

