-- ==== Sys2Proof/Machine/Operands.lean ====
section
/-! DEFINITION. Sys2Proof/Machine/Operands.lean: the default operand resolver (30_encoding.md R51 to R65), the fallback
of the dispatcher, and the one shape every instruction has: resolve, advance PC, execute (40_cycle.md R74, R75). -/

namespace Sys2Proof.Machine

/-- An operand made from `b0 = bs[0]`. A list without it is no slice the core makes; it yields no operand (log 3). -/
def fromByte (make : Byte → Operand) : List Byte → Operand
  | b0 :: _ => make b0
  | [] => .implied

/-- An operand made from the little-endian `b1 ++ b0` (20_memory.md R38; log 6), likewise. -/
def fromWord (make : Word → Operand) : List Byte → Operand
  | b0 :: b1 :: _ => make (concat b1 b0)
  | _ => .implied

/-- The 16-bit pointer held in the zero page at `p` and `p + 1`; `p + 1` is 8-bit, so 0xFF is followed by 0x00
(R63, R64). -/
def zeroPagePointer (m : Memory) (p : Byte) : Word :=
  concat (memRead m (zext16 (p + 1))) (memRead m (zext16 p))

/-- The default `RESOLVE(mode, s, bs)`: it reads X, Y and memory and writes nothing (R51). Index registers are
added as unsigned bytes (R65; log 14). -/
def resolve : Mode → State → List Byte → Operand
  | .implied, _, _ => .implied                                                        -- R52
  | .accumulator, _, _ => .implied                                                    -- R53
  | .immediate, _, bs => fromByte .immediate bs                                       -- R54
  | .zeroPage, _, bs => fromByte (fun b0 => .address (zext16 b0)) bs                  -- R55
  | .zeroPageX, s, bs => fromByte (fun b0 => .address (zext16 (b0 + s.x))) bs         -- R56
  | .zeroPageY, s, bs => fromByte (fun b0 => .address (zext16 (b0 + s.y))) bs         -- R57
  | .relative, _, bs => fromByte .immediate bs                                        -- R58
  | .absolute, _, bs => fromWord .address bs                                          -- R59
  | .absoluteX, s, bs => fromWord (fun w => .address (w + zext16 s.x)) bs             -- R60
  | .absoluteY, s, bs => fromWord (fun w => .address (w + zext16 s.y)) bs             -- R61
  | .indirect, _, bs => fromWord .address bs                                          -- R62
  | .indexedIndirectX, s, bs =>
    fromByte (fun b0 => .address (zeroPagePointer s.mem (b0 + s.x))) bs               -- R63
  | .indirectIndexedY, s, bs =>
    fromByte (fun b0 => .address (zeroPagePointer s.mem b0 + zext16 s.y)) bs          -- R64

/-- The fallback: "a no-op with an observable diagnostic trace" (40_cycle.md R78). No register, flag or memory write;
the trace is not state (10_state.md R34) and is given by Machine/Trace.lean (log 10). -/
def unimplemented (_tag : Tag) (_operand : Operand) (s : State) : State := s

/-- What an instruction with a value does: `f` on the operand value, which is the immediate byte or the byte read from
memory at the address, a single read (42_adc.md R94, 43_loads.md R95 to R97); without a value, the fallback. -/
def withValue (tag : Tag) (f : Byte → State → State) (operand : Operand) (s : State) : State :=
  match operand with
  | .immediate v => f v s
  | .address a => f (memRead s.mem a) s
  | .implied => unimplemented tag operand s

/-- One instruction: the operand is resolved in the state before the advance, PC moves past the instruction, then
the dispatcher runs `op` in the advanced state (40_cycle.md R74, R75; log 11). -/
def perform (mode : Mode) (bytes : List Byte) (op : Operand → State → State) (s : State) : Result :=
  let operand := resolve mode s bytes
  let advanced := advancePc (1 + extraBytes mode) s
  .next (op operand advanced)

end Sys2Proof.Machine
end

