-- ==== Sys2Proof/Machine/Alu.lean ====
section
/-! DEFINITION. Sys2Proof/Machine/Alu.lean: the three primitives of the ALU (41_alu_primitives.md), each "an atomic
register-plus-flags update". None reads or writes PC or memory (R93), none reads P.D, I or B (R90). -/

namespace Sys2Proof.Machine

/-- `load_with_flags(R, v)` (R84). -/
def loadWithFlags (r : Reg) (v : Byte) (s : State) : State :=
  setFlags (StatusBit.z.mask ||| StatusBit.n.mask)
    (StatusBit.z.value (isZero v) ||| StatusBit.n.value (isNegative v)) (writeReg r v s)

/-- `add_with_carry(v)` under a setting of FLAG_RULE (R85): first C and V, then A, Z and N. -/
def addWithCarryUnder (rule : FlagRule) (v : Byte) (s : State) : State :=
  let a := s.a
  let c := s.flag .c
  let r := a + v + carryByte c
  let newC := carryOut rule a v c r
  let newV := overflowOut rule a v r
  loadWithFlags .a r
    (setFlags (StatusBit.c.mask ||| StatusBit.v.mask) (StatusBit.c.value newC ||| StatusBit.v.value newV) s)

/-- `add_with_carry(v)` of the machine (R85, R10). -/
def addWithCarry (v : Byte) (s : State) : State := addWithCarryUnder flagRule v s

/-- `decrement(R)` (R89). -/
def decrement (r : Reg) (s : State) : State := loadWithFlags r (readReg r s - 0x01) s

end Sys2Proof.Machine
end

