-- ==== Sys2Proof/Machine/AddWithCarry.lean ====
section
/-! DEFINITION. Sys2Proof/Machine/AddWithCarry.lean: the meanings of ADC, the one arithmetic instruction with semantics (42_adc.md). `op…` is what the dispatcher
does with a resolved operand; `exec…` is one row of the opcode table. -/

namespace Sys2Proof.Machine

/-- 42_adc.md R94: the operand value goes to add-with-carry (41_alu_primitives.md R85). -/
def opAdc (operand : Operand) (s : State) : State := withValue .adc addWithCarry operand s

/-- ADC ($nn,X), opcode 0x61, 2 bytes (R94). -/
def execAdcIzx (ptr : Byte) (s : State) : Result := perform .indexedIndirectX [ptr] opAdc s

/-- ADC $nn, opcode 0x65, 2 bytes (R94). -/
def execAdcZp (zp : Byte) (s : State) : Result := perform .zeroPage [zp] opAdc s

/-- ADC #$nn, opcode 0x69, 2 bytes (R94). -/
def execAdcImm (imm : Byte) (s : State) : Result := perform .immediate [imm] opAdc s

/-- ADC $nnnn, opcode 0x6D, 3 bytes (R94). -/
def execAdcAbs (lo : Byte) (hi : Byte) (s : State) : Result := perform .absolute [lo, hi] opAdc s

/-- ADC ($nn),Y, opcode 0x71, 2 bytes (R94). -/
def execAdcIzy (ptr : Byte) (s : State) : Result := perform .indirectIndexedY [ptr] opAdc s

/-- ADC $nn,X, opcode 0x75, 2 bytes (R94). -/
def execAdcZpx (zp : Byte) (s : State) : Result := perform .zeroPageX [zp] opAdc s

/-- ADC $nnnn,Y, opcode 0x79, 3 bytes (R94). -/
def execAdcAbsy (lo : Byte) (hi : Byte) (s : State) : Result := perform .absoluteY [lo, hi] opAdc s

/-- ADC $nnnn,X, opcode 0x7D, 3 bytes (R94). -/
def execAdcAbsx (lo : Byte) (hi : Byte) (s : State) : Result := perform .absoluteX [lo, hi] opAdc s

end Sys2Proof.Machine
end

