-- ==== Sys2Proof/Machine/Branches.lean ====
section
/-! DEFINITION. Sys2Proof/Machine/Branches.lean: the meanings of the eight conditional branches (46_unimplemented.md: no semantics in this core, so none is ever taken). `op…` is what the dispatcher
does with a resolved operand; `exec…` is one row of the opcode table. -/

namespace Sys2Proof.Machine

/-- 46_unimplemented.md R102: "BCC is never taken: PC always advances by 2, whatever the flags." -/
def opBcc (operand : Operand) (s : State) : State := unimplemented .bcc operand s

/-- BCC label, opcode 0x90, 2 bytes (R102). -/
def execBccRel (offset : Byte) (s : State) : Result := perform .relative [offset] opBcc s

/-- 46_unimplemented.md R103: "BCS is never taken: PC always advances by 2, whatever the flags." -/
def opBcs (operand : Operand) (s : State) : State := unimplemented .bcs operand s

/-- BCS label, opcode 0xB0, 2 bytes (R103). -/
def execBcsRel (offset : Byte) (s : State) : Result := perform .relative [offset] opBcs s

/-- 46_unimplemented.md R104: "BEQ is never taken: PC always advances by 2, whatever the flags." -/
def opBeq (operand : Operand) (s : State) : State := unimplemented .beq operand s

/-- BEQ label, opcode 0xF0, 2 bytes (R104). -/
def execBeqRel (offset : Byte) (s : State) : Result := perform .relative [offset] opBeq s

/-- 46_unimplemented.md R106: "BMI is never taken: PC always advances by 2, whatever the flags." -/
def opBmi (operand : Operand) (s : State) : State := unimplemented .bmi operand s

/-- BMI label, opcode 0x30, 2 bytes (R106). -/
def execBmiRel (offset : Byte) (s : State) : Result := perform .relative [offset] opBmi s

/-- 46_unimplemented.md R107: "BNE is never taken: PC always advances by 2, whatever the flags. A loop closed by BNE falls through." -/
def opBne (operand : Operand) (s : State) : State := unimplemented .bne operand s

/-- BNE label, opcode 0xD0, 2 bytes (R107). -/
def execBneRel (offset : Byte) (s : State) : Result := perform .relative [offset] opBne s

/-- 46_unimplemented.md R108: "BPL is never taken: PC always advances by 2, whatever the flags." -/
def opBpl (operand : Operand) (s : State) : State := unimplemented .bpl operand s

/-- BPL label, opcode 0x10, 2 bytes (R108). -/
def execBplRel (offset : Byte) (s : State) : Result := perform .relative [offset] opBpl s

/-- 46_unimplemented.md R110: "BVC is never taken: PC always advances by 2, whatever the flags." -/
def opBvc (operand : Operand) (s : State) : State := unimplemented .bvc operand s

/-- BVC label, opcode 0x50, 2 bytes (R110). -/
def execBvcRel (offset : Byte) (s : State) : Result := perform .relative [offset] opBvc s

/-- 46_unimplemented.md R111: "BVS is never taken: PC always advances by 2, whatever the flags." -/
def opBvs (operand : Operand) (s : State) : State := unimplemented .bvs operand s

/-- BVS label, opcode 0x70, 2 bytes (R111). -/
def execBvsRel (offset : Byte) (s : State) : Result := perform .relative [offset] opBvs s

end Sys2Proof.Machine
end

