-- ==== Sys2Proof/Machine/Compare.lean ====
section
/-! DEFINITION. Sys2Proof/Machine/Compare.lean: the meanings of CMP, CPX, CPY and SBC (46_unimplemented.md: no semantics in this core). `op…` is what the dispatcher
does with a resolved operand; `exec…` is one row of the opcode table. -/

namespace Sys2Proof.Machine

/-- 46_unimplemented.md R116: "CMP does not write C, Z or N." -/
def opCmp (operand : Operand) (s : State) : State := unimplemented .cmp operand s

/-- CMP ($nn,X), opcode 0xC1, 2 bytes (R116). -/
def execCmpIzx (ptr : Byte) (s : State) : Result := perform .indexedIndirectX [ptr] opCmp s

/-- CMP $nn, opcode 0xC5, 2 bytes (R116). -/
def execCmpZp (zp : Byte) (s : State) : Result := perform .zeroPage [zp] opCmp s

/-- CMP #$nn, opcode 0xC9, 2 bytes (R116). -/
def execCmpImm (imm : Byte) (s : State) : Result := perform .immediate [imm] opCmp s

/-- CMP $nnnn, opcode 0xCD, 3 bytes (R116). -/
def execCmpAbs (lo : Byte) (hi : Byte) (s : State) : Result := perform .absolute [lo, hi] opCmp s

/-- CMP ($nn),Y, opcode 0xD1, 2 bytes (R116). -/
def execCmpIzy (ptr : Byte) (s : State) : Result := perform .indirectIndexedY [ptr] opCmp s

/-- CMP $nn,X, opcode 0xD5, 2 bytes (R116). -/
def execCmpZpx (zp : Byte) (s : State) : Result := perform .zeroPageX [zp] opCmp s

/-- CMP $nnnn,Y, opcode 0xD9, 3 bytes (R116). -/
def execCmpAbsy (lo : Byte) (hi : Byte) (s : State) : Result := perform .absoluteY [lo, hi] opCmp s

/-- CMP $nnnn,X, opcode 0xDD, 3 bytes (R116). -/
def execCmpAbsx (lo : Byte) (hi : Byte) (s : State) : Result := perform .absoluteX [lo, hi] opCmp s

/-- 46_unimplemented.md R117: "CPX does not write C, Z or N." -/
def opCpx (operand : Operand) (s : State) : State := unimplemented .cpx operand s

/-- CPX #$nn, opcode 0xE0, 2 bytes (R117). -/
def execCpxImm (imm : Byte) (s : State) : Result := perform .immediate [imm] opCpx s

/-- CPX $nn, opcode 0xE4, 2 bytes (R117). -/
def execCpxZp (zp : Byte) (s : State) : Result := perform .zeroPage [zp] opCpx s

/-- CPX $nnnn, opcode 0xEC, 3 bytes (R117). -/
def execCpxAbs (lo : Byte) (hi : Byte) (s : State) : Result := perform .absolute [lo, hi] opCpx s

/-- 46_unimplemented.md R118: "CPY does not write C, Z or N." -/
def opCpy (operand : Operand) (s : State) : State := unimplemented .cpy operand s

/-- CPY #$nn, opcode 0xC0, 2 bytes (R118). -/
def execCpyImm (imm : Byte) (s : State) : Result := perform .immediate [imm] opCpy s

/-- CPY $nn, opcode 0xC4, 2 bytes (R118). -/
def execCpyZp (zp : Byte) (s : State) : Result := perform .zeroPage [zp] opCpy s

/-- CPY $nnnn, opcode 0xCC, 3 bytes (R118). -/
def execCpyAbs (lo : Byte) (hi : Byte) (s : State) : Result := perform .absolute [lo, hi] opCpy s

/-- 46_unimplemented.md R137: "SBC does not change A, C, V, Z or N." -/
def opSbc (operand : Operand) (s : State) : State := unimplemented .sbc operand s

/-- SBC ($nn,X), opcode 0xE1, 2 bytes (R137). -/
def execSbcIzx (ptr : Byte) (s : State) : Result := perform .indexedIndirectX [ptr] opSbc s

/-- SBC $nn, opcode 0xE5, 2 bytes (R137). -/
def execSbcZp (zp : Byte) (s : State) : Result := perform .zeroPage [zp] opSbc s

/-- SBC #$nn, opcode 0xE9, 2 bytes (R137). -/
def execSbcImm (imm : Byte) (s : State) : Result := perform .immediate [imm] opSbc s

/-- SBC $nnnn, opcode 0xED, 3 bytes (R137). -/
def execSbcAbs (lo : Byte) (hi : Byte) (s : State) : Result := perform .absolute [lo, hi] opSbc s

/-- SBC ($nn),Y, opcode 0xF1, 2 bytes (R137). -/
def execSbcIzy (ptr : Byte) (s : State) : Result := perform .indirectIndexedY [ptr] opSbc s

/-- SBC $nn,X, opcode 0xF5, 2 bytes (R137). -/
def execSbcZpx (zp : Byte) (s : State) : Result := perform .zeroPageX [zp] opSbc s

/-- SBC $nnnn,Y, opcode 0xF9, 3 bytes (R137). -/
def execSbcAbsy (lo : Byte) (hi : Byte) (s : State) : Result := perform .absoluteY [lo, hi] opSbc s

/-- SBC $nnnn,X, opcode 0xFD, 3 bytes (R137). -/
def execSbcAbsx (lo : Byte) (hi : Byte) (s : State) : Result := perform .absoluteX [lo, hi] opSbc s

end Sys2Proof.Machine
end

