-- ==== Sys2Proof/Machine/Control.lean ====
section
/-! DEFINITION. Sys2Proof/Machine/Control.lean: the meanings of BRK, JMP, JSR, RTI and RTS (46_unimplemented.md: no semantics in this core, so none transfers control). `op…` is what the dispatcher
does with a resolved operand; `exec…` is one row of the opcode table. -/

namespace Sys2Proof.Machine

/-- 46_unimplemented.md R109: "BRK pushes nothing, sets no flag (no B, no I), reads no vector and does not transfer control. In T6502 it is 1 byte long, so the byte after it is fetched as the next opcode. Because 0x00 is defined, zero-filled memory does not halt the run loop (70_reset_and_hazards.md rule R170)." -/
def opBrk (operand : Operand) (s : State) : State := unimplemented .brk operand s

/-- BRK, opcode 0x00, 1 byte (R109). -/
def execBrkImp (s : State) : Result := perform .implied [] opBrk s

/-- 46_unimplemented.md R125: "JMP does not transfer control: PC advances by 3 to the next instruction." -/
def opJmp (operand : Operand) (s : State) : State := unimplemented .jmp operand s

/-- JMP $nnnn, opcode 0x4C, 3 bytes (R125). -/
def execJmpAbs (lo : Byte) (hi : Byte) (s : State) : Result := perform .absolute [lo, hi] opJmp s

/-- JMP ($nnnn), opcode 0x6C, 3 bytes (R125). -/
def execJmpInd (lo : Byte) (hi : Byte) (s : State) : Result := perform .indirect [lo, hi] opJmp s

/-- 46_unimplemented.md R126: "JSR pushes no return address and does not transfer control: PC advances by 3." -/
def opJsr (operand : Operand) (s : State) : State := unimplemented .jsr operand s

/-- JSR $nnnn, opcode 0x20, 3 bytes (R126). -/
def execJsrAbs (lo : Byte) (hi : Byte) (s : State) : Result := perform .absolute [lo, hi] opJsr s

/-- 46_unimplemented.md R135: "RTI restores nothing and does not transfer control: PC advances by 1." -/
def opRti (operand : Operand) (s : State) : State := unimplemented .rti operand s

/-- RTI, opcode 0x40, 1 byte (R135). -/
def execRtiImp (s : State) : Result := perform .implied [] opRti s

/-- 46_unimplemented.md R136: "RTS does not transfer control: PC advances by 1." -/
def opRts (operand : Operand) (s : State) : State := unimplemented .rts operand s

/-- RTS, opcode 0x60, 1 byte (R136). -/
def execRtsImp (s : State) : Result := perform .implied [] opRts s

end Sys2Proof.Machine
end

