-- ==== Sys2Proof/Machine/Decrement.lean ====
section
/-! DEFINITION. Sys2Proof/Machine/Decrement.lean: the meanings of DEX (44_dex.md). `op…` is what the dispatcher
does with a resolved operand; `exec…` is one row of the opcode table. -/

namespace Sys2Proof.Machine

/-- 44_dex.md R98: decrement X; any other operand kind takes the fallback. -/
def opDex (operand : Operand) (s : State) : State :=
  match operand with
  | .implied => decrement .x s
  | _ => unimplemented .dex operand s

/-- DEX, opcode 0xCA, 1 byte (R98). -/
def execDexImp (s : State) : Result := perform .implied [] opDex s

end Sys2Proof.Machine
end

