-- ==== Sys2Proof/Machine/FlagOps.lean ====
section
/-! DEFINITION. Sys2Proof/Machine/FlagOps.lean: the meanings of CLC, CLD, CLI, CLV, SEC, SED and SEI (46_unimplemented.md: no semantics in this core). `op…` is what the dispatcher
does with a resolved operand; `exec…` is one row of the opcode table. -/

namespace Sys2Proof.Machine

/-- 46_unimplemented.md R112: "CLC does not clear C. The C that ADC reads is the one left by the previous ADC, the reset or the host." -/
def opClc (operand : Operand) (s : State) : State := unimplemented .clc operand s

/-- CLC, opcode 0x18, 1 byte (R112). -/
def execClcImp (s : State) : Result := perform .implied [] opClc s

/-- 46_unimplemented.md R113: "CLD does not write D." -/
def opCld (operand : Operand) (s : State) : State := unimplemented .cld operand s

/-- CLD, opcode 0xD8, 1 byte (R113). -/
def execCldImp (s : State) : Result := perform .implied [] opCld s

/-- 46_unimplemented.md R114: "CLI does not write I." -/
def opCli (operand : Operand) (s : State) : State := unimplemented .cli operand s

/-- CLI, opcode 0x58, 1 byte (R114). -/
def execCliImp (s : State) : Result := perform .implied [] opCli s

/-- 46_unimplemented.md R115: "CLV does not clear V." -/
def opClv (operand : Operand) (s : State) : State := unimplemented .clv operand s

/-- CLV, opcode 0xB8, 1 byte (R115). -/
def execClvImp (s : State) : Result := perform .implied [] opClv s

/-- 46_unimplemented.md R138: "SEC does not set C." -/
def opSec (operand : Operand) (s : State) : State := unimplemented .sec operand s

/-- SEC, opcode 0x38, 1 byte (R138). -/
def execSecImp (s : State) : Result := perform .implied [] opSec s

/-- 46_unimplemented.md R139: "SED does not set D; even if the host sets D, ADC stays binary (41_alu_primitives.md rule R90)." -/
def opSed (operand : Operand) (s : State) : State := unimplemented .sed operand s

/-- SED, opcode 0xF8, 1 byte (R139). -/
def execSedImp (s : State) : Result := perform .implied [] opSed s

/-- 46_unimplemented.md R140: "SEI does not set I." -/
def opSei (operand : Operand) (s : State) : State := unimplemented .sei operand s

/-- SEI, opcode 0x78, 1 byte (R140). -/
def execSeiImp (s : State) : Result := perform .implied [] opSei s

end Sys2Proof.Machine
end

