-- ==== Sys2Proof/Machine/IncDec.lean ====
section
/-! DEFINITION. Sys2Proof/Machine/IncDec.lean: the meanings of DEC, DEY, INC, INX and INY (46_unimplemented.md: no semantics in this core). `op…` is what the dispatcher
does with a resolved operand; `exec…` is one row of the opcode table. -/

namespace Sys2Proof.Machine

/-- 46_unimplemented.md R119: "DEC does not write memory, Z or N." -/
def opDec (operand : Operand) (s : State) : State := unimplemented .dec operand s

/-- DEC $nn, opcode 0xC6, 2 bytes (R119). -/
def execDecZp (zp : Byte) (s : State) : Result := perform .zeroPage [zp] opDec s

/-- DEC $nnnn, opcode 0xCE, 3 bytes (R119). -/
def execDecAbs (lo : Byte) (hi : Byte) (s : State) : Result := perform .absolute [lo, hi] opDec s

/-- DEC $nn,X, opcode 0xD6, 2 bytes (R119). -/
def execDecZpx (zp : Byte) (s : State) : Result := perform .zeroPageX [zp] opDec s

/-- DEC $nnnn,X, opcode 0xDE, 3 bytes (R119). -/
def execDecAbsx (lo : Byte) (hi : Byte) (s : State) : Result := perform .absoluteX [lo, hi] opDec s

/-- 46_unimplemented.md R120: "DEY does not change Y, Z or N." -/
def opDey (operand : Operand) (s : State) : State := unimplemented .dey operand s

/-- DEY, opcode 0x88, 1 byte (R120). -/
def execDeyImp (s : State) : Result := perform .implied [] opDey s

/-- 46_unimplemented.md R122: "INC does not write memory, Z or N." -/
def opInc (operand : Operand) (s : State) : State := unimplemented .inc operand s

/-- INC $nn, opcode 0xE6, 2 bytes (R122). -/
def execIncZp (zp : Byte) (s : State) : Result := perform .zeroPage [zp] opInc s

/-- INC $nnnn, opcode 0xEE, 3 bytes (R122). -/
def execIncAbs (lo : Byte) (hi : Byte) (s : State) : Result := perform .absolute [lo, hi] opInc s

/-- INC $nn,X, opcode 0xF6, 2 bytes (R122). -/
def execIncZpx (zp : Byte) (s : State) : Result := perform .zeroPageX [zp] opInc s

/-- INC $nnnn,X, opcode 0xFE, 3 bytes (R122). -/
def execIncAbsx (lo : Byte) (hi : Byte) (s : State) : Result := perform .absoluteX [lo, hi] opInc s

/-- 46_unimplemented.md R123: "INX does not change X, Z or N." -/
def opInx (operand : Operand) (s : State) : State := unimplemented .inx operand s

/-- INX, opcode 0xE8, 1 byte (R123). -/
def execInxImp (s : State) : Result := perform .implied [] opInx s

/-- 46_unimplemented.md R124: "INY does not change Y, Z or N." -/
def opIny (operand : Operand) (s : State) : State := unimplemented .iny operand s

/-- INY, opcode 0xC8, 1 byte (R124). -/
def execInyImp (s : State) : Result := perform .implied [] opIny s

end Sys2Proof.Machine
end

