-- ==== Sys2Proof/Machine/Loads.lean ====
section
/-! DEFINITION. Sys2Proof/Machine/Loads.lean: the meanings of LDA, LDX and LDY (43_loads.md). `op…` is what the dispatcher
does with a resolved operand; `exec…` is one row of the opcode table. -/

namespace Sys2Proof.Machine

/-- 43_loads.md R95: load A and set Z and N. -/
def opLda (operand : Operand) (s : State) : State := withValue .lda (loadWithFlags .a) operand s

/-- LDA ($nn,X), opcode 0xA1, 2 bytes (R95). -/
def execLdaIzx (ptr : Byte) (s : State) : Result := perform .indexedIndirectX [ptr] opLda s

/-- LDA $nn, opcode 0xA5, 2 bytes (R95). -/
def execLdaZp (zp : Byte) (s : State) : Result := perform .zeroPage [zp] opLda s

/-- LDA #$nn, opcode 0xA9, 2 bytes (R95). -/
def execLdaImm (imm : Byte) (s : State) : Result := perform .immediate [imm] opLda s

/-- LDA $nnnn, opcode 0xAD, 3 bytes (R95). -/
def execLdaAbs (lo : Byte) (hi : Byte) (s : State) : Result := perform .absolute [lo, hi] opLda s

/-- LDA ($nn),Y, opcode 0xB1, 2 bytes (R95). -/
def execLdaIzy (ptr : Byte) (s : State) : Result := perform .indirectIndexedY [ptr] opLda s

/-- LDA $nn,X, opcode 0xB5, 2 bytes (R95). -/
def execLdaZpx (zp : Byte) (s : State) : Result := perform .zeroPageX [zp] opLda s

/-- LDA $nnnn,Y, opcode 0xB9, 3 bytes (R95). -/
def execLdaAbsy (lo : Byte) (hi : Byte) (s : State) : Result := perform .absoluteY [lo, hi] opLda s

/-- LDA $nnnn,X, opcode 0xBD, 3 bytes (R95). -/
def execLdaAbsx (lo : Byte) (hi : Byte) (s : State) : Result := perform .absoluteX [lo, hi] opLda s

/-- 43_loads.md R96: load X and set Z and N. -/
def opLdx (operand : Operand) (s : State) : State := withValue .ldx (loadWithFlags .x) operand s

/-- LDX #$nn, opcode 0xA2, 2 bytes (R96). -/
def execLdxImm (imm : Byte) (s : State) : Result := perform .immediate [imm] opLdx s

/-- LDX $nn, opcode 0xA6, 2 bytes (R96). -/
def execLdxZp (zp : Byte) (s : State) : Result := perform .zeroPage [zp] opLdx s

/-- LDX $nnnn, opcode 0xAE, 3 bytes (R96). -/
def execLdxAbs (lo : Byte) (hi : Byte) (s : State) : Result := perform .absolute [lo, hi] opLdx s

/-- LDX $nn,Y, opcode 0xB6, 2 bytes (R96). -/
def execLdxZpy (zp : Byte) (s : State) : Result := perform .zeroPageY [zp] opLdx s

/-- LDX $nnnn,Y, opcode 0xBE, 3 bytes (R96). -/
def execLdxAbsy (lo : Byte) (hi : Byte) (s : State) : Result := perform .absoluteY [lo, hi] opLdx s

/-- 43_loads.md R97: load Y and set Z and N. -/
def opLdy (operand : Operand) (s : State) : State := withValue .ldy (loadWithFlags .y) operand s

/-- LDY #$nn, opcode 0xA0, 2 bytes (R97). -/
def execLdyImm (imm : Byte) (s : State) : Result := perform .immediate [imm] opLdy s

/-- LDY $nn, opcode 0xA4, 2 bytes (R97). -/
def execLdyZp (zp : Byte) (s : State) : Result := perform .zeroPage [zp] opLdy s

/-- LDY $nnnn, opcode 0xAC, 3 bytes (R97). -/
def execLdyAbs (lo : Byte) (hi : Byte) (s : State) : Result := perform .absolute [lo, hi] opLdy s

/-- LDY $nn,X, opcode 0xB4, 2 bytes (R97). -/
def execLdyZpx (zp : Byte) (s : State) : Result := perform .zeroPageX [zp] opLdy s

/-- LDY $nnnn,X, opcode 0xBC, 3 bytes (R97). -/
def execLdyAbsx (lo : Byte) (hi : Byte) (s : State) : Result := perform .absoluteX [lo, hi] opLdy s

end Sys2Proof.Machine
end

