-- ==== Sys2Proof/Machine/Logic.lean ====
section
/-! DEFINITION. Sys2Proof/Machine/Logic.lean: the meanings of AND, BIT, EOR and ORA (46_unimplemented.md: no semantics in this core). `op…` is what the dispatcher
does with a resolved operand; `exec…` is one row of the opcode table. -/

namespace Sys2Proof.Machine

/-- 46_unimplemented.md R100: "AND does not change A, Z or N." -/
def opAnd (operand : Operand) (s : State) : State := unimplemented .and operand s

/-- AND ($nn,X), opcode 0x21, 2 bytes (R100). -/
def execAndIzx (ptr : Byte) (s : State) : Result := perform .indexedIndirectX [ptr] opAnd s

/-- AND $nn, opcode 0x25, 2 bytes (R100). -/
def execAndZp (zp : Byte) (s : State) : Result := perform .zeroPage [zp] opAnd s

/-- AND #$nn, opcode 0x29, 2 bytes (R100). -/
def execAndImm (imm : Byte) (s : State) : Result := perform .immediate [imm] opAnd s

/-- AND $nnnn, opcode 0x2D, 3 bytes (R100). -/
def execAndAbs (lo : Byte) (hi : Byte) (s : State) : Result := perform .absolute [lo, hi] opAnd s

/-- AND ($nn),Y, opcode 0x31, 2 bytes (R100). -/
def execAndIzy (ptr : Byte) (s : State) : Result := perform .indirectIndexedY [ptr] opAnd s

/-- AND $nn,X, opcode 0x35, 2 bytes (R100). -/
def execAndZpx (zp : Byte) (s : State) : Result := perform .zeroPageX [zp] opAnd s

/-- AND $nnnn,Y, opcode 0x39, 3 bytes (R100). -/
def execAndAbsy (lo : Byte) (hi : Byte) (s : State) : Result := perform .absoluteY [lo, hi] opAnd s

/-- AND $nnnn,X, opcode 0x3D, 3 bytes (R100). -/
def execAndAbsx (lo : Byte) (hi : Byte) (s : State) : Result := perform .absoluteX [lo, hi] opAnd s

/-- 46_unimplemented.md R105: "BIT does not write N, V or Z." -/
def opBit (operand : Operand) (s : State) : State := unimplemented .bit operand s

/-- BIT $nn, opcode 0x24, 2 bytes (R105). -/
def execBitZp (zp : Byte) (s : State) : Result := perform .zeroPage [zp] opBit s

/-- BIT $nnnn, opcode 0x2C, 3 bytes (R105). -/
def execBitAbs (lo : Byte) (hi : Byte) (s : State) : Result := perform .absolute [lo, hi] opBit s

/-- 46_unimplemented.md R121: "EOR does not change A, Z or N." -/
def opEor (operand : Operand) (s : State) : State := unimplemented .eor operand s

/-- EOR ($nn,X), opcode 0x41, 2 bytes (R121). -/
def execEorIzx (ptr : Byte) (s : State) : Result := perform .indexedIndirectX [ptr] opEor s

/-- EOR $nn, opcode 0x45, 2 bytes (R121). -/
def execEorZp (zp : Byte) (s : State) : Result := perform .zeroPage [zp] opEor s

/-- EOR #$nn, opcode 0x49, 2 bytes (R121). -/
def execEorImm (imm : Byte) (s : State) : Result := perform .immediate [imm] opEor s

/-- EOR $nnnn, opcode 0x4D, 3 bytes (R121). -/
def execEorAbs (lo : Byte) (hi : Byte) (s : State) : Result := perform .absolute [lo, hi] opEor s

/-- EOR ($nn),Y, opcode 0x51, 2 bytes (R121). -/
def execEorIzy (ptr : Byte) (s : State) : Result := perform .indirectIndexedY [ptr] opEor s

/-- EOR $nn,X, opcode 0x55, 2 bytes (R121). -/
def execEorZpx (zp : Byte) (s : State) : Result := perform .zeroPageX [zp] opEor s

/-- EOR $nnnn,Y, opcode 0x59, 3 bytes (R121). -/
def execEorAbsy (lo : Byte) (hi : Byte) (s : State) : Result := perform .absoluteY [lo, hi] opEor s

/-- EOR $nnnn,X, opcode 0x5D, 3 bytes (R121). -/
def execEorAbsx (lo : Byte) (hi : Byte) (s : State) : Result := perform .absoluteX [lo, hi] opEor s

/-- 46_unimplemented.md R128: "ORA does not change A, Z or N." -/
def opOra (operand : Operand) (s : State) : State := unimplemented .ora operand s

/-- ORA ($nn,X), opcode 0x01, 2 bytes (R128). -/
def execOraIzx (ptr : Byte) (s : State) : Result := perform .indexedIndirectX [ptr] opOra s

/-- ORA $nn, opcode 0x05, 2 bytes (R128). -/
def execOraZp (zp : Byte) (s : State) : Result := perform .zeroPage [zp] opOra s

/-- ORA #$nn, opcode 0x09, 2 bytes (R128). -/
def execOraImm (imm : Byte) (s : State) : Result := perform .immediate [imm] opOra s

/-- ORA $nnnn, opcode 0x0D, 3 bytes (R128). -/
def execOraAbs (lo : Byte) (hi : Byte) (s : State) : Result := perform .absolute [lo, hi] opOra s

/-- ORA ($nn),Y, opcode 0x11, 2 bytes (R128). -/
def execOraIzy (ptr : Byte) (s : State) : Result := perform .indirectIndexedY [ptr] opOra s

/-- ORA $nn,X, opcode 0x15, 2 bytes (R128). -/
def execOraZpx (zp : Byte) (s : State) : Result := perform .zeroPageX [zp] opOra s

/-- ORA $nnnn,Y, opcode 0x19, 3 bytes (R128). -/
def execOraAbsy (lo : Byte) (hi : Byte) (s : State) : Result := perform .absoluteY [lo, hi] opOra s

/-- ORA $nnnn,X, opcode 0x1D, 3 bytes (R128). -/
def execOraAbsx (lo : Byte) (hi : Byte) (s : State) : Result := perform .absoluteX [lo, hi] opOra s

end Sys2Proof.Machine
end

