-- ==== Sys2Proof/Machine/NoOperation.lean ====
section
/-! DEFINITION. Sys2Proof/Machine/NoOperation.lean: the meanings of NOP (45_nop.md). `op…` is what the dispatcher
does with a resolved operand; `exec…` is one row of the opcode table. -/

namespace Sys2Proof.Machine

/-- 45_nop.md R99: "No-Operation: no state change", for any operand. -/
def opNop (_operand : Operand) (s : State) : State := s

/-- NOP, opcode 0xEA, 1 byte (R99). -/
def execNopImp (s : State) : Result := perform .implied [] opNop s

end Sys2Proof.Machine
end

