-- ==== Sys2Proof/Machine/Shifts.lean ====
section
/-! DEFINITION. Sys2Proof/Machine/Shifts.lean: the meanings of ASL, LSR, ROL and ROR (46_unimplemented.md: no semantics in this core). `op…` is what the dispatcher
does with a resolved operand; `exec…` is one row of the opcode table. -/

namespace Sys2Proof.Machine

/-- 46_unimplemented.md R101: "ASL does not shift A or memory and does not write C, Z or N." -/
def opAsl (operand : Operand) (s : State) : State := unimplemented .asl operand s

/-- ASL $nn, opcode 0x06, 2 bytes (R101). -/
def execAslZp (zp : Byte) (s : State) : Result := perform .zeroPage [zp] opAsl s

/-- ASL A, opcode 0x0A, 1 byte (R101). -/
def execAslAcc (s : State) : Result := perform .accumulator [] opAsl s

/-- ASL $nnnn, opcode 0x0E, 3 bytes (R101). -/
def execAslAbs (lo : Byte) (hi : Byte) (s : State) : Result := perform .absolute [lo, hi] opAsl s

/-- ASL $nn,X, opcode 0x16, 2 bytes (R101). -/
def execAslZpx (zp : Byte) (s : State) : Result := perform .zeroPageX [zp] opAsl s

/-- ASL $nnnn,X, opcode 0x1E, 3 bytes (R101). -/
def execAslAbsx (lo : Byte) (hi : Byte) (s : State) : Result := perform .absoluteX [lo, hi] opAsl s

/-- 46_unimplemented.md R127: "LSR does not shift A or memory and does not write C, Z or N." -/
def opLsr (operand : Operand) (s : State) : State := unimplemented .lsr operand s

/-- LSR $nn, opcode 0x46, 2 bytes (R127). -/
def execLsrZp (zp : Byte) (s : State) : Result := perform .zeroPage [zp] opLsr s

/-- LSR A, opcode 0x4A, 1 byte (R127). -/
def execLsrAcc (s : State) : Result := perform .accumulator [] opLsr s

/-- LSR $nnnn, opcode 0x4E, 3 bytes (R127). -/
def execLsrAbs (lo : Byte) (hi : Byte) (s : State) : Result := perform .absolute [lo, hi] opLsr s

/-- LSR $nn,X, opcode 0x56, 2 bytes (R127). -/
def execLsrZpx (zp : Byte) (s : State) : Result := perform .zeroPageX [zp] opLsr s

/-- LSR $nnnn,X, opcode 0x5E, 3 bytes (R127). -/
def execLsrAbsx (lo : Byte) (hi : Byte) (s : State) : Result := perform .absoluteX [lo, hi] opLsr s

/-- 46_unimplemented.md R133: "ROL does not rotate A or memory and does not write C, Z or N." -/
def opRol (operand : Operand) (s : State) : State := unimplemented .rol operand s

/-- ROL $nn, opcode 0x26, 2 bytes (R133). -/
def execRolZp (zp : Byte) (s : State) : Result := perform .zeroPage [zp] opRol s

/-- ROL A, opcode 0x2A, 1 byte (R133). -/
def execRolAcc (s : State) : Result := perform .accumulator [] opRol s

/-- ROL $nnnn, opcode 0x2E, 3 bytes (R133). -/
def execRolAbs (lo : Byte) (hi : Byte) (s : State) : Result := perform .absolute [lo, hi] opRol s

/-- ROL $nn,X, opcode 0x36, 2 bytes (R133). -/
def execRolZpx (zp : Byte) (s : State) : Result := perform .zeroPageX [zp] opRol s

/-- ROL $nnnn,X, opcode 0x3E, 3 bytes (R133). -/
def execRolAbsx (lo : Byte) (hi : Byte) (s : State) : Result := perform .absoluteX [lo, hi] opRol s

/-- 46_unimplemented.md R134: "ROR does not rotate A or memory and does not write C, Z or N." -/
def opRor (operand : Operand) (s : State) : State := unimplemented .ror operand s

/-- ROR $nn, opcode 0x66, 2 bytes (R134). -/
def execRorZp (zp : Byte) (s : State) : Result := perform .zeroPage [zp] opRor s

/-- ROR A, opcode 0x6A, 1 byte (R134). -/
def execRorAcc (s : State) : Result := perform .accumulator [] opRor s

/-- ROR $nnnn, opcode 0x6E, 3 bytes (R134). -/
def execRorAbs (lo : Byte) (hi : Byte) (s : State) : Result := perform .absolute [lo, hi] opRor s

/-- ROR $nn,X, opcode 0x76, 2 bytes (R134). -/
def execRorZpx (zp : Byte) (s : State) : Result := perform .zeroPageX [zp] opRor s

/-- ROR $nnnn,X, opcode 0x7E, 3 bytes (R134). -/
def execRorAbsx (lo : Byte) (hi : Byte) (s : State) : Result := perform .absoluteX [lo, hi] opRor s

end Sys2Proof.Machine
end

