-- ==== Sys2Proof/Machine/Stack.lean ====
section
/-! DEFINITION. Sys2Proof/Machine/Stack.lean: the meanings of PHA, PHP, PLA and PLP (46_unimplemented.md: no semantics in this core, which has no stack). `op…` is what the dispatcher
does with a resolved operand; `exec…` is one row of the opcode table. -/

namespace Sys2Proof.Machine

/-- 46_unimplemented.md R129: "PHA writes no memory; there is no stack pointer (10_state.md rule R31)." -/
def opPha (operand : Operand) (s : State) : State := unimplemented .pha operand s

/-- PHA, opcode 0x48, 1 byte (R129). -/
def execPhaImp (s : State) : Result := perform .implied [] opPha s

/-- 46_unimplemented.md R130: "PHP writes no memory." -/
def opPhp (operand : Operand) (s : State) : State := unimplemented .php operand s

/-- PHP, opcode 0x08, 1 byte (R130). -/
def execPhpImp (s : State) : Result := perform .implied [] opPhp s

/-- 46_unimplemented.md R131: "PLA does not change A, Z or N and reads no stack byte." -/
def opPla (operand : Operand) (s : State) : State := unimplemented .pla operand s

/-- PLA, opcode 0x68, 1 byte (R131). -/
def execPlaImp (s : State) : Result := perform .implied [] opPla s

/-- 46_unimplemented.md R132: "PLP does not change P." -/
def opPlp (operand : Operand) (s : State) : State := unimplemented .plp operand s

/-- PLP, opcode 0x28, 1 byte (R132). -/
def execPlpImp (s : State) : Result := perform .implied [] opPlp s

end Sys2Proof.Machine
end

