-- ==== Sys2Proof/Machine/Stores.lean ====
section
/-! DEFINITION. Sys2Proof/Machine/Stores.lean: the meanings of STA, STX and STY (46_unimplemented.md: no semantics in this core). `op…` is what the dispatcher
does with a resolved operand; `exec…` is one row of the opcode table. -/

namespace Sys2Proof.Machine

/-- 46_unimplemented.md R141: "STA writes no memory." -/
def opSta (operand : Operand) (s : State) : State := unimplemented .sta operand s

/-- STA ($nn,X), opcode 0x81, 2 bytes (R141). -/
def execStaIzx (ptr : Byte) (s : State) : Result := perform .indexedIndirectX [ptr] opSta s

/-- STA $nn, opcode 0x85, 2 bytes (R141). -/
def execStaZp (zp : Byte) (s : State) : Result := perform .zeroPage [zp] opSta s

/-- STA $nnnn, opcode 0x8D, 3 bytes (R141). -/
def execStaAbs (lo : Byte) (hi : Byte) (s : State) : Result := perform .absolute [lo, hi] opSta s

/-- STA ($nn),Y, opcode 0x91, 2 bytes (R141). -/
def execStaIzy (ptr : Byte) (s : State) : Result := perform .indirectIndexedY [ptr] opSta s

/-- STA $nn,X, opcode 0x95, 2 bytes (R141). -/
def execStaZpx (zp : Byte) (s : State) : Result := perform .zeroPageX [zp] opSta s

/-- STA $nnnn,Y, opcode 0x99, 3 bytes (R141). -/
def execStaAbsy (lo : Byte) (hi : Byte) (s : State) : Result := perform .absoluteY [lo, hi] opSta s

/-- STA $nnnn,X, opcode 0x9D, 3 bytes (R141). -/
def execStaAbsx (lo : Byte) (hi : Byte) (s : State) : Result := perform .absoluteX [lo, hi] opSta s

/-- 46_unimplemented.md R142: "STX writes no memory." -/
def opStx (operand : Operand) (s : State) : State := unimplemented .stx operand s

/-- STX $nn, opcode 0x86, 2 bytes (R142). -/
def execStxZp (zp : Byte) (s : State) : Result := perform .zeroPage [zp] opStx s

/-- STX $nnnn, opcode 0x8E, 3 bytes (R142). -/
def execStxAbs (lo : Byte) (hi : Byte) (s : State) : Result := perform .absolute [lo, hi] opStx s

/-- STX $nn,Y, opcode 0x96, 2 bytes (R142). -/
def execStxZpy (zp : Byte) (s : State) : Result := perform .zeroPageY [zp] opStx s

/-- 46_unimplemented.md R143: "STY writes no memory." -/
def opSty (operand : Operand) (s : State) : State := unimplemented .sty operand s

/-- STY $nn, opcode 0x84, 2 bytes (R143). -/
def execStyZp (zp : Byte) (s : State) : Result := perform .zeroPage [zp] opSty s

/-- STY $nnnn, opcode 0x8C, 3 bytes (R143). -/
def execStyAbs (lo : Byte) (hi : Byte) (s : State) : Result := perform .absolute [lo, hi] opSty s

/-- STY $nn,X, opcode 0x94, 2 bytes (R143). -/
def execStyZpx (zp : Byte) (s : State) : Result := perform .zeroPageX [zp] opSty s

end Sys2Proof.Machine
end

