-- ==== Sys2Proof/Machine/Transfers.lean ====
section
/-! DEFINITION. Sys2Proof/Machine/Transfers.lean: the meanings of TAX, TAY, TSX, TXA, TXS and TYA (46_unimplemented.md: no semantics in this core). `op…` is what the dispatcher
does with a resolved operand; `exec…` is one row of the opcode table. -/

namespace Sys2Proof.Machine

/-- 46_unimplemented.md R144: "TAX does not change X, Z or N." -/
def opTax (operand : Operand) (s : State) : State := unimplemented .tax operand s

/-- TAX, opcode 0xAA, 1 byte (R144). -/
def execTaxImp (s : State) : Result := perform .implied [] opTax s

/-- 46_unimplemented.md R145: "TAY does not change Y, Z or N." -/
def opTay (operand : Operand) (s : State) : State := unimplemented .tay operand s

/-- TAY, opcode 0xA8, 1 byte (R145). -/
def execTayImp (s : State) : Result := perform .implied [] opTay s

/-- 46_unimplemented.md R146: "TSX does not change X; there is no stack pointer." -/
def opTsx (operand : Operand) (s : State) : State := unimplemented .tsx operand s

/-- TSX, opcode 0xBA, 1 byte (R146). -/
def execTsxImp (s : State) : Result := perform .implied [] opTsx s

/-- 46_unimplemented.md R147: "TXA does not change A, Z or N." -/
def opTxa (operand : Operand) (s : State) : State := unimplemented .txa operand s

/-- TXA, opcode 0x8A, 1 byte (R147). -/
def execTxaImp (s : State) : Result := perform .implied [] opTxa s

/-- 46_unimplemented.md R148: "TXS changes nothing; there is no stack pointer." -/
def opTxs (operand : Operand) (s : State) : State := unimplemented .txs operand s

/-- TXS, opcode 0x9A, 1 byte (R148). -/
def execTxsImp (s : State) : Result := perform .implied [] opTxs s

/-- 46_unimplemented.md R149: "TYA does not change A, Z or N." -/
def opTya (operand : Operand) (s : State) : State := unimplemented .tya operand s

/-- TYA, opcode 0x98, 1 byte (R149). -/
def execTyaImp (s : State) : Result := perform .implied [] opTya s

end Sys2Proof.Machine
end

