-- ==== Sys2Proof/Machine/Dispatch.lean ====
section
/-! DEFINITION. Sys2Proof/Machine/Dispatch.lean: one arm per constructor of Instr, each one direct call of a meaning. -/

namespace Sys2Proof.Machine

def exec (i : Instr) (s : State) : Host.Outcome State Fault Refusal :=
  match i with
  -- ADC, the one arithmetic instruction with semantics (42_adc.md)
  | .adcIzx ptr => Sys2Proof.Machine.execAdcIzx ptr s
  | .adcZp zp => Sys2Proof.Machine.execAdcZp zp s
  | .adcImm imm => Sys2Proof.Machine.execAdcImm imm s
  | .adcAbs lo hi => Sys2Proof.Machine.execAdcAbs lo hi s
  | .adcIzy ptr => Sys2Proof.Machine.execAdcIzy ptr s
  | .adcZpx zp => Sys2Proof.Machine.execAdcZpx zp s
  | .adcAbsy lo hi => Sys2Proof.Machine.execAdcAbsy lo hi s
  | .adcAbsx lo hi => Sys2Proof.Machine.execAdcAbsx lo hi s
  -- LDA, LDX and LDY (43_loads.md)
  | .ldaIzx ptr => Sys2Proof.Machine.execLdaIzx ptr s
  | .ldaZp zp => Sys2Proof.Machine.execLdaZp zp s
  | .ldaImm imm => Sys2Proof.Machine.execLdaImm imm s
  | .ldaAbs lo hi => Sys2Proof.Machine.execLdaAbs lo hi s
  | .ldaIzy ptr => Sys2Proof.Machine.execLdaIzy ptr s
  | .ldaZpx zp => Sys2Proof.Machine.execLdaZpx zp s
  | .ldaAbsy lo hi => Sys2Proof.Machine.execLdaAbsy lo hi s
  | .ldaAbsx lo hi => Sys2Proof.Machine.execLdaAbsx lo hi s
  | .ldxImm imm => Sys2Proof.Machine.execLdxImm imm s
  | .ldxZp zp => Sys2Proof.Machine.execLdxZp zp s
  | .ldxAbs lo hi => Sys2Proof.Machine.execLdxAbs lo hi s
  | .ldxZpy zp => Sys2Proof.Machine.execLdxZpy zp s
  | .ldxAbsy lo hi => Sys2Proof.Machine.execLdxAbsy lo hi s
  | .ldyImm imm => Sys2Proof.Machine.execLdyImm imm s
  | .ldyZp zp => Sys2Proof.Machine.execLdyZp zp s
  | .ldyAbs lo hi => Sys2Proof.Machine.execLdyAbs lo hi s
  | .ldyZpx zp => Sys2Proof.Machine.execLdyZpx zp s
  | .ldyAbsx lo hi => Sys2Proof.Machine.execLdyAbsx lo hi s
  -- DEX (44_dex.md)
  | .dexImp => Sys2Proof.Machine.execDexImp s
  -- NOP (45_nop.md)
  | .nopImp => Sys2Proof.Machine.execNopImp s
  -- AND, BIT, EOR and ORA (46_unimplemented.md: no semantics in this core)
  | .andIzx ptr => Sys2Proof.Machine.execAndIzx ptr s
  | .andZp zp => Sys2Proof.Machine.execAndZp zp s
  | .andImm imm => Sys2Proof.Machine.execAndImm imm s
  | .andAbs lo hi => Sys2Proof.Machine.execAndAbs lo hi s
  | .andIzy ptr => Sys2Proof.Machine.execAndIzy ptr s
  | .andZpx zp => Sys2Proof.Machine.execAndZpx zp s
  | .andAbsy lo hi => Sys2Proof.Machine.execAndAbsy lo hi s
  | .andAbsx lo hi => Sys2Proof.Machine.execAndAbsx lo hi s
  | .bitZp zp => Sys2Proof.Machine.execBitZp zp s
  | .bitAbs lo hi => Sys2Proof.Machine.execBitAbs lo hi s
  | .eorIzx ptr => Sys2Proof.Machine.execEorIzx ptr s
  | .eorZp zp => Sys2Proof.Machine.execEorZp zp s
  | .eorImm imm => Sys2Proof.Machine.execEorImm imm s
  | .eorAbs lo hi => Sys2Proof.Machine.execEorAbs lo hi s
  | .eorIzy ptr => Sys2Proof.Machine.execEorIzy ptr s
  | .eorZpx zp => Sys2Proof.Machine.execEorZpx zp s
  | .eorAbsy lo hi => Sys2Proof.Machine.execEorAbsy lo hi s
  | .eorAbsx lo hi => Sys2Proof.Machine.execEorAbsx lo hi s
  | .oraIzx ptr => Sys2Proof.Machine.execOraIzx ptr s
  | .oraZp zp => Sys2Proof.Machine.execOraZp zp s
  | .oraImm imm => Sys2Proof.Machine.execOraImm imm s
  | .oraAbs lo hi => Sys2Proof.Machine.execOraAbs lo hi s
  | .oraIzy ptr => Sys2Proof.Machine.execOraIzy ptr s
  | .oraZpx zp => Sys2Proof.Machine.execOraZpx zp s
  | .oraAbsy lo hi => Sys2Proof.Machine.execOraAbsy lo hi s
  | .oraAbsx lo hi => Sys2Proof.Machine.execOraAbsx lo hi s
  -- CMP, CPX, CPY and SBC (46_unimplemented.md: no semantics in this core)
  | .cmpIzx ptr => Sys2Proof.Machine.execCmpIzx ptr s
  | .cmpZp zp => Sys2Proof.Machine.execCmpZp zp s
  | .cmpImm imm => Sys2Proof.Machine.execCmpImm imm s
  | .cmpAbs lo hi => Sys2Proof.Machine.execCmpAbs lo hi s
  | .cmpIzy ptr => Sys2Proof.Machine.execCmpIzy ptr s
  | .cmpZpx zp => Sys2Proof.Machine.execCmpZpx zp s
  | .cmpAbsy lo hi => Sys2Proof.Machine.execCmpAbsy lo hi s
  | .cmpAbsx lo hi => Sys2Proof.Machine.execCmpAbsx lo hi s
  | .cpxImm imm => Sys2Proof.Machine.execCpxImm imm s
  | .cpxZp zp => Sys2Proof.Machine.execCpxZp zp s
  | .cpxAbs lo hi => Sys2Proof.Machine.execCpxAbs lo hi s
  | .cpyImm imm => Sys2Proof.Machine.execCpyImm imm s
  | .cpyZp zp => Sys2Proof.Machine.execCpyZp zp s
  | .cpyAbs lo hi => Sys2Proof.Machine.execCpyAbs lo hi s
  | .sbcIzx ptr => Sys2Proof.Machine.execSbcIzx ptr s
  | .sbcZp zp => Sys2Proof.Machine.execSbcZp zp s
  | .sbcImm imm => Sys2Proof.Machine.execSbcImm imm s
  | .sbcAbs lo hi => Sys2Proof.Machine.execSbcAbs lo hi s
  | .sbcIzy ptr => Sys2Proof.Machine.execSbcIzy ptr s
  | .sbcZpx zp => Sys2Proof.Machine.execSbcZpx zp s
  | .sbcAbsy lo hi => Sys2Proof.Machine.execSbcAbsy lo hi s
  | .sbcAbsx lo hi => Sys2Proof.Machine.execSbcAbsx lo hi s
  -- ASL, LSR, ROL and ROR (46_unimplemented.md: no semantics in this core)
  | .aslZp zp => Sys2Proof.Machine.execAslZp zp s
  | .aslAcc => Sys2Proof.Machine.execAslAcc s
  | .aslAbs lo hi => Sys2Proof.Machine.execAslAbs lo hi s
  | .aslZpx zp => Sys2Proof.Machine.execAslZpx zp s
  | .aslAbsx lo hi => Sys2Proof.Machine.execAslAbsx lo hi s
  | .lsrZp zp => Sys2Proof.Machine.execLsrZp zp s
  | .lsrAcc => Sys2Proof.Machine.execLsrAcc s
  | .lsrAbs lo hi => Sys2Proof.Machine.execLsrAbs lo hi s
  | .lsrZpx zp => Sys2Proof.Machine.execLsrZpx zp s
  | .lsrAbsx lo hi => Sys2Proof.Machine.execLsrAbsx lo hi s
  | .rolZp zp => Sys2Proof.Machine.execRolZp zp s
  | .rolAcc => Sys2Proof.Machine.execRolAcc s
  | .rolAbs lo hi => Sys2Proof.Machine.execRolAbs lo hi s
  | .rolZpx zp => Sys2Proof.Machine.execRolZpx zp s
  | .rolAbsx lo hi => Sys2Proof.Machine.execRolAbsx lo hi s
  | .rorZp zp => Sys2Proof.Machine.execRorZp zp s
  | .rorAcc => Sys2Proof.Machine.execRorAcc s
  | .rorAbs lo hi => Sys2Proof.Machine.execRorAbs lo hi s
  | .rorZpx zp => Sys2Proof.Machine.execRorZpx zp s
  | .rorAbsx lo hi => Sys2Proof.Machine.execRorAbsx lo hi s
  -- DEC, DEY, INC, INX and INY (46_unimplemented.md: no semantics in this core)
  | .decZp zp => Sys2Proof.Machine.execDecZp zp s
  | .decAbs lo hi => Sys2Proof.Machine.execDecAbs lo hi s
  | .decZpx zp => Sys2Proof.Machine.execDecZpx zp s
  | .decAbsx lo hi => Sys2Proof.Machine.execDecAbsx lo hi s
  | .deyImp => Sys2Proof.Machine.execDeyImp s
  | .incZp zp => Sys2Proof.Machine.execIncZp zp s
  | .incAbs lo hi => Sys2Proof.Machine.execIncAbs lo hi s
  | .incZpx zp => Sys2Proof.Machine.execIncZpx zp s
  | .incAbsx lo hi => Sys2Proof.Machine.execIncAbsx lo hi s
  | .inxImp => Sys2Proof.Machine.execInxImp s
  | .inyImp => Sys2Proof.Machine.execInyImp s
  -- STA, STX and STY (46_unimplemented.md: no semantics in this core)
  | .staIzx ptr => Sys2Proof.Machine.execStaIzx ptr s
  | .staZp zp => Sys2Proof.Machine.execStaZp zp s
  | .staAbs lo hi => Sys2Proof.Machine.execStaAbs lo hi s
  | .staIzy ptr => Sys2Proof.Machine.execStaIzy ptr s
  | .staZpx zp => Sys2Proof.Machine.execStaZpx zp s
  | .staAbsy lo hi => Sys2Proof.Machine.execStaAbsy lo hi s
  | .staAbsx lo hi => Sys2Proof.Machine.execStaAbsx lo hi s
  | .stxZp zp => Sys2Proof.Machine.execStxZp zp s
  | .stxAbs lo hi => Sys2Proof.Machine.execStxAbs lo hi s
  | .stxZpy zp => Sys2Proof.Machine.execStxZpy zp s
  | .styZp zp => Sys2Proof.Machine.execStyZp zp s
  | .styAbs lo hi => Sys2Proof.Machine.execStyAbs lo hi s
  | .styZpx zp => Sys2Proof.Machine.execStyZpx zp s
  -- TAX, TAY, TSX, TXA, TXS and TYA (46_unimplemented.md: no semantics in this core)
  | .taxImp => Sys2Proof.Machine.execTaxImp s
  | .tayImp => Sys2Proof.Machine.execTayImp s
  | .tsxImp => Sys2Proof.Machine.execTsxImp s
  | .txaImp => Sys2Proof.Machine.execTxaImp s
  | .txsImp => Sys2Proof.Machine.execTxsImp s
  | .tyaImp => Sys2Proof.Machine.execTyaImp s
  -- the eight conditional branches (46_unimplemented.md: no semantics in this core, so none is ever taken)
  | .bccRel offset => Sys2Proof.Machine.execBccRel offset s
  | .bcsRel offset => Sys2Proof.Machine.execBcsRel offset s
  | .beqRel offset => Sys2Proof.Machine.execBeqRel offset s
  | .bmiRel offset => Sys2Proof.Machine.execBmiRel offset s
  | .bneRel offset => Sys2Proof.Machine.execBneRel offset s
  | .bplRel offset => Sys2Proof.Machine.execBplRel offset s
  | .bvcRel offset => Sys2Proof.Machine.execBvcRel offset s
  | .bvsRel offset => Sys2Proof.Machine.execBvsRel offset s
  -- BRK, JMP, JSR, RTI and RTS (46_unimplemented.md: no semantics in this core, so none transfers control)
  | .brkImp => Sys2Proof.Machine.execBrkImp s
  | .jmpAbs lo hi => Sys2Proof.Machine.execJmpAbs lo hi s
  | .jmpInd lo hi => Sys2Proof.Machine.execJmpInd lo hi s
  | .jsrAbs lo hi => Sys2Proof.Machine.execJsrAbs lo hi s
  | .rtiImp => Sys2Proof.Machine.execRtiImp s
  | .rtsImp => Sys2Proof.Machine.execRtsImp s
  -- CLC, CLD, CLI, CLV, SEC, SED and SEI (46_unimplemented.md: no semantics in this core)
  | .clcImp => Sys2Proof.Machine.execClcImp s
  | .cldImp => Sys2Proof.Machine.execCldImp s
  | .cliImp => Sys2Proof.Machine.execCliImp s
  | .clvImp => Sys2Proof.Machine.execClvImp s
  | .secImp => Sys2Proof.Machine.execSecImp s
  | .sedImp => Sys2Proof.Machine.execSedImp s
  | .seiImp => Sys2Proof.Machine.execSeiImp s
  -- PHA, PHP, PLA and PLP (46_unimplemented.md: no semantics in this core, which has no stack)
  | .phaImp => Sys2Proof.Machine.execPhaImp s
  | .phpImp => Sys2Proof.Machine.execPhpImp s
  | .plaImp => Sys2Proof.Machine.execPlaImp s
  | .plpImp => Sys2Proof.Machine.execPlpImp s

end Sys2Proof.Machine
end

