-- ==== Sys2Proof/Machine/Fetch.lean ====
section
/-! DEFINITION. Sys2Proof/Machine/Fetch.lean: fetching and decoding the instruction at PC, and placing one there. -/

namespace Sys2Proof.Machine

/-- The instruction at PC, or none where the opcode byte is not in the table, in which case no operand byte is read
(40_cycle.md R73). Otherwise `EXTRA(mode)` bytes are read from PC + 1 on, modulo 2^16 (R74). -/
def fetchDecode (s : State) : Option Instr :=
  let op := memRead s.mem s.pc
  match (opcodeCell op).operandCount with
  | none => none
  | some n =>
    match decode (op :: memReadSlice s.mem (s.pc + 1) n) with
    | .ok (i, _) => some i
    | .error _ => none

/-- The state with an instruction, given as the number whose bits spec/opcode_table.json numbers, stored at PC: the
host's writes of 70_reset_and_hazards.md R166 (log 8). -/
def placeTableWord (s : State) (nbits w : Nat) : State := memWriteSlice s.pc (tableBytes nbits w) s

end Sys2Proof.Machine
end

