-- ==== Sys2Proof/Machine/Step.lean ====
section
/-! DEFINITION. Sys2Proof/Machine/Step.lean: one step (40_cycle.md R79). -/

namespace Sys2Proof.Machine

/-- One step: the byte at PC is not in the opcode table, so the run halts and nothing is written (40_cycle.md R73;
log 1), or the instruction at PC is performed (R74, R77). -/
def step (s : State) : Host.Outcome State Fault Refusal :=
  match fetchDecode s with
  | none => .fault .halted
  | some i => exec i s

/-- The state with an instruction stored where `step` fetches its next instruction: at PC (log 8). -/
def State.withFetchWord (s : State) (nbits w : Nat) : State := placeTableWord s nbits w

end Sys2Proof.Machine
end

