-- ==== Sys2Proof/Machine/Dump.lean ====
section
/-! DEFINITION. Sys2Proof/Machine/Dump.lean: the human-readable dump, the core's second output that is no state
(10_state.md R34 (b); log 18). No meaning and no claim reads it. -/

namespace Sys2Proof.Machine

/-- A dump. It is a record, not the text a host would read: the format is out of scope (00_scope.md R4 (g)). -/
structure Dump where
  /-- "accumulator value at minimum" (R34, 10_state.md R19). -/
  accumulator : Byte
  /-- Whatever else it says. -/
  further : String
  deriving DecidableEq, Repr

/-- The dump entry point (40_cycle.md R82): it reads the Machine and changes nothing. -/
def dump (s : State) : Dump := { accumulator := s.a, further := freeDumpText s }

end Sys2Proof.Machine
end

