-- ==== Sys2Proof/Machine/Engine.lean ====
section
/-! DEFINITION. Sys2Proof/Machine/Engine.lean: the core as the source writes it, under ANY setting of its parameters
(00_scope.md R8 to R10): the fetch-decode engine, the dispatcher, the step and the run loop of 40_cycle.md. `step`
of Machine/Step.lean is this engine at `defaultConfig`, which is a claim (Obligations.StepIsTheEngineAtItsDefaults). -/

namespace Sys2Proof.Machine

/-- The spec's default parameters: T6502, the default resolver, FLAG_RULE = Chip (logs 2, 3, 4). -/
def defaultConfig : Config State :=
  { opcodeTable := t6502, extra := extraBytes, resolve := resolve, flagRule := flagRule }

/-- `fetch_next_and_decode(s)`: none, with no state written (R73), or the decoded pair and the state with PC
advanced (R74). The pair is transient, not state (R76). -/
def fetchNextAndDecode (cfg : Config State) (s : State) : Option ((Tag × Operand) × State) :=
  match cfg.opcodeTable (memRead s.mem s.pc) with
  | none => none
  | some (tag, mode) =>
    let n := cfg.extra mode
    let bs := memReadSlice s.mem (s.pc + 1) n
    let operand := cfg.resolve mode s bs
    some ((tag, operand), advancePc (1 + n) s)

/-- Which pairs the dispatcher has a case for; every other pair takes the fallback (R77, R78). -/
def hasSemantics (tag : Tag) (operand : Operand) : Bool :=
  match tag with
  | .adc | .lda | .ldx | .ldy => operand != .implied
  | .dex => operand == .implied
  | .nop => true
  | _ => false

/-- `execute_instruction(s, (tag, operand))`: "an exhaustive case analysis over (instruction tag, operand kind)
pairs", R77's table with the fallback of R78 as its last line; it does not advance PC (R82). -/
def executeInstruction (cfg : Config State) (tag : Tag) (operand : Operand) (s : State) : State :=
  match tag with
  | .adc => withValue .adc (addWithCarryUnder cfg.flagRule) operand s
  | .lda => withValue .lda (loadWithFlags .a) operand s
  | .ldx => withValue .ldx (loadWithFlags .x) operand s
  | .ldy => withValue .ldy (loadWithFlags .y) operand s
  | .dex =>
    match operand with
    | .implied => decrement .x s
    | _ => unimplemented .dex operand s
  | .nop => s
  | _ => unimplemented tag operand s

/-- The two outcomes of a step; "there is no fault outcome" (R79). -/
inductive StepOutcome where
  /-- The run stops in this state. -/
  | halted (s : State)
  /-- The run goes on from this state. -/
  | running (s : State)
  deriving DecidableEq, Repr

/-- One step of the Machine (R79). -/
def engineStep (cfg : Config State) (s : State) : StepOutcome :=
  match fetchNextAndDecode cfg s with
  | none => .halted s
  | some ((tag, operand), advanced) => .running (executeInstruction cfg tag operand advanced)

/-- An outcome of the engine in the host's three (log 1). -/
def StepOutcome.toResult : StepOutcome → Result
  | .halted _ => .fault .halted
  | .running s => .next s

/-- How far a run under fuel came; exhausted fuel is "not yet halted", never a halt (R81; log 13). -/
inductive RunOutcome where
  /-- The run ended in this state after so many executed instructions. -/
  | halted (executed : Nat) (s : State)
  /-- The fuel ran out in this state. -/
  | notYetHalted (s : State)
  deriving DecidableEq, Repr

/-- One more executed instruction before the rest of a run. -/
def RunOutcome.afterOneMore : RunOutcome → RunOutcome
  | .halted n s => .halted (n + 1) s
  | .notYetHalted s => .notYetHalted s

/-- The Machine a run leaves to the host. -/
def RunOutcome.state : RunOutcome → State
  | .halted _ s => s
  | .notYetHalted s => s

/-- `run(s)` under fuel (R80, R81): fetch and decode, stop if there is none, else execute, and again. -/
def run (cfg : Config State) : Nat → State → RunOutcome
  | 0, s => .notYetHalted s
  | fuel + 1, s =>
    match engineStep cfg s with
    | .halted s' => .halted 0 s'
    | .running s' => (run cfg fuel s').afterOneMore

end Sys2Proof.Machine
end

