-- ==== Sys2Proof/Machine/HostAccess.lean ====
section
/-! DEFINITION. Sys2Proof/Machine/HostAccess.lean: what the host may do to the Machine between steps
(70_reset_and_hazards.md R166, R167), and the entry points it may call (40_cycle.md R82, 41_alu_primitives.md R93). -/

namespace Sys2Proof.Machine

/-- `load_accumulator(v)` (R93). -/
def loadAccumulator (v : Byte) (s : State) : State := loadWithFlags .a v s

/-- `load_x_register(v)` (R93). -/
def loadXRegister (v : Byte) (s : State) : State := loadWithFlags .x v s

/-- `load_y_register(v)` (R93). -/
def loadYRegister (v : Byte) (s : State) : State := loadWithFlags .y v s

/-- `dec_x()` (R93). -/
def decX (s : State) : State := decrement .x s

/-- `status.set_with_mask`: the host's masked replace of any bits of P (10_state.md R28, R167). -/
def setWithMask (mask new : Byte) (s : State) : State := setFlags mask new s

/-- What the host may read (R167; 60_exceptions.md R161). -/
inductive HostRead where
  | memory (a : Word)
  | a
  | x
  | y
  | pc
  /-- All of P. -/
  | status
  /-- `status.contains(bit)`. -/
  | flag (bit : StatusBit)
  /-- The dump (10_state.md R34 (b)). -/
  | dump
  deriving DecidableEq, Repr

/-- What a read answers. -/
inductive HostAnswer where
  | byte (b : Byte)
  | word (w : Word)
  | bit (on : Bool)
  | dump (d : Dump)
  deriving DecidableEq, Repr

/-- The answer to a read. -/
def hostRead : HostRead → State → HostAnswer
  | .memory a, s => .byte (memRead s.mem a)
  | .a, s => .byte s.a
  | .x, s => .byte s.x
  | .y, s => .byte s.y
  | .pc, s => .word s.pc
  | .status, s => .byte s.p
  | .flag bit, s => .bit (s.flag bit)
  | .dump, s => .dump (dump s)

/-- One action of the host (R167). -/
inductive HostAction where
  /-- A read, which `hostRead` answers; it changes nothing. -/
  | read (what : HostRead)
  /-- Create a fresh Machine, or reset one: full replacement (R163). -/
  | reset
  | writeMemory (a : Word) (v : Byte)
  | writeA (v : Byte)
  | writeX (v : Byte)
  | writeY (v : Byte)
  | writePc (w : Word)
  | writeStatus (mask new : Byte)
  | loadAccumulator (v : Byte)
  | loadXRegister (v : Byte)
  | loadYRegister (v : Byte)
  | addWithCarry (v : Byte)
  | decX
  /-- `fetch_next_and_decode` alone: PC advances, or nothing changes. -/
  | fetchNextAndDecode
  /-- `execute_instruction` alone: PC is not advanced (R82). -/
  | executeInstruction (tag : Tag) (operand : Operand)
  /-- `run`, under fuel (R81). -/
  | run (fuel : Nat)
  deriving DecidableEq, Repr

/-- What an action leaves, at the default parameters. It is total: the host never acts during a step (R167). -/
def hostAct : HostAction → State → State
  | .read _, s => s
  | .reset, _ => State.reset
  | .writeMemory a v, s => memWrite a v s
  | .writeA v, s => { s with a := v }
  | .writeX v, s => { s with x := v }
  | .writeY v, s => { s with y := v }
  | .writePc w, s => { s with pc := w }
  | .writeStatus mask new, s => setWithMask mask new s
  | .loadAccumulator v, s => loadAccumulator v s
  | .loadXRegister v, s => loadXRegister v s
  | .loadYRegister v, s => loadYRegister v s
  | .addWithCarry v, s => addWithCarry v s
  | .decX, s => decX s
  | .fetchNextAndDecode, s =>
    match fetchNextAndDecode defaultConfig s with
    | none => s
    | some (_, advanced) => advanced
  | .executeInstruction tag operand, s => executeInstruction defaultConfig tag operand s
  | .run fuel, s => (run defaultConfig fuel s).state

/-- Boot: write the program's bytes from the entry address on, then set PC to it (R166). -/
def boot (entry : Word) (program : List Byte) (s : State) : State :=
  { memWriteSlice entry program s with pc := entry }

end Sys2Proof.Machine
end

