-- ==== Sys2Proof/Safety.lean ====
section
/-! DEFINITION. Sys2Proof/Safety.lean: what counts as a safe state and a safe run, in the terms the claims use. The
hardware has no error state: "no traps, no panics, total functions" (60_exceptions.md). -/

namespace Sys2Proof.Machine

/-- The bits of P that no instruction writes: bits 5 to 2 (10_state.md R23). -/
def reservedStatus (s : State) : Byte := s.p &&& 0x3C

/-- The invariant of a machine whose host leaves bits 5 to 2 of P alone: memory is in canonical form, and those bits
read 0 as at reset (10_state.md R23, R32; 92_eei_decisions.md D3). -/
def Inv (s : State) : Prop := Memory.wf s.mem = true ∧ reservedStatus s = 0x00

/-- The Machine is halted: PC is the address of an undefined byte (40_cycle.md R80, 60_exceptions.md R162). -/
def Halted (s : State) : Prop := t6502 (memRead s.mem s.pc) = none

/-- A step is safe when it answers a next state, or stops in the one way the hardware has. -/
def SafeStep (s : State) : Prop := (∃ t, step s = .next t) ∨ (Halted s ∧ step s = .fault .halted)

end Sys2Proof.Machine
end

