-- ==== Sys2Proof/Certificates/Slice0/Obligations.lean ====
section
/-! DEFINITION. Sys2Proof/Certificates/Slice0/Obligations.lean: the statements for the provers. The terms of `Claims` say
what the spec says over natural numbers, apart from the definitions of the model they are compared with. -/

namespace Sys2Proof.Claims

open Sys2Proof.Machine

/-- The byte of memory at an address, taken modulo 2^16. -/
def byteAt (s : State) (k : Nat) : Byte := memRead s.mem (BitVec.ofNat 16 k)

/-- R55: the operand byte is an address of the zero page. -/
def zeroPage (b : Byte) : Nat := b.toNat

/-- R56: indexed by X, wrapping inside the zero page; the index is unsigned (R65). -/
def zeroPageX (s : State) (b : Byte) : Nat := (b.toNat + s.x.toNat) % 256

/-- R57: indexed by Y, wrapping inside the zero page. -/
def zeroPageY (s : State) (b : Byte) : Nat := (b.toNat + s.y.toNat) % 256

/-- R59: little-endian (R38). -/
def absolute (lo hi : Byte) : Nat := lo.toNat + 256 * hi.toNat

/-- R60: indexed by X, wrapping at the top of memory. -/
def absoluteX (s : State) (lo hi : Byte) : Nat := (absolute lo hi + s.x.toNat) % 65536

/-- R61: indexed by Y, wrapping at the top of memory. -/
def absoluteY (s : State) (lo hi : Byte) : Nat := (absolute lo hi + s.y.toNat) % 65536

/-- The little-endian pointer in the zero page at `k` and `k + 1`, both modulo 256 (R63, R64). -/
def pointer (s : State) (k : Nat) : Nat := absolute (byteAt s (k % 256)) (byteAt s ((k + 1) % 256))

/-- R63: the pointer at the operand byte plus X. -/
def indexedIndirectX (s : State) (b : Byte) : Nat := pointer s (b.toNat + s.x.toNat)

/-- R64: the pointer at the operand byte, then plus Y, wrapping at the top of memory. -/
def indirectIndexedY (s : State) (b : Byte) : Nat := (pointer s b.toNat + s.y.toNat) % 65536

/-- P with N, V, Z and C as given and bits 5 to 2 of `p` (R23). -/
def statusOf (n v z c : Bool) (p : Byte) : Byte :=
  BitVec.ofBoolListBE [n, v, p.getLsbD 5, p.getLsbD 4, p.getLsbD 3, p.getLsbD 2, z, c]

/-- P after a load of `v`: Z and N from `v`, the rest of `p` kept (R84). -/
def loadedStatus (v p : Byte) : Byte :=
  statusOf (decide (128 ≤ v.toNat)) (p.getLsbD 6) (decide (v.toNat = 0)) (p.getLsbD 0) p

/-- A, Z and N after a load of A. -/
def loadedA (v : Byte) (s : State) : State := { s with a := v, p := loadedStatus v s.p }

/-- X, Z and N after a load of X. -/
def loadedX (v : Byte) (s : State) : State := { s with x := v, p := loadedStatus v s.p }

/-- Y, Z and N after a load of Y. -/
def loadedY (v : Byte) (s : State) : State := { s with y := v, p := loadedStatus v s.p }

/-- The exact sum of A, an operand value and the carry-in. -/
def exactSum (v : Byte) (s : State) : Nat := s.a.toNat + v.toNat + (s.p.getLsbD 0).toNat

/-- R87: both operands share a sign and the result's sign differs; the sign is bit 7. -/
def signsOverflow (a v r : Byte) : Bool :=
  a.getLsbD 7 == v.getLsbD 7 && r.getLsbD 7 != a.getLsbD 7

/-- A, C, V, Z and N after add-with-carry of `v` (R85, R86, R87). -/
def added (v : Byte) (s : State) : State :=
  let sum := exactSum v s
  { s with
    a := BitVec.ofNat 8 sum
    p := statusOf (decide (128 ≤ sum % 256)) (signsOverflow s.a v (BitVec.ofNat 8 sum))
      (decide (sum % 256 = 0)) (decide (256 ≤ sum)) s.p }

/-- The same with C and V by the comparisons of the source's section 4.3 as written (R88). -/
def addedLiteral (v : Byte) (s : State) : State :=
  let r : Byte := BitVec.ofNat 8 (exactSum v s)
  { s with
    a := r
    p := statusOf (decide (128 ≤ r.toNat))
      (decide ((s.a.toInt < 0 ∧ v.toInt < 0 ∧ r.toInt ≥ 0) ∨ (s.a.toInt > 0 ∧ v.toInt > 0 ∧ r.toInt ≤ 0)))
      (decide (r.toNat = 0)) (decide (r.toNat < s.a.toNat)) s.p }

/-- Add-with-carry of `v` under a setting of FLAG_RULE (R10). -/
def addedUnder : FlagRule → Byte → State → State
  | .chip => added
  | .sourceLiteral => addedLiteral

/-- X, Z and N after a decrement of X, modulo 256 (R89). -/
def decrementedX (s : State) : State := loadedX (BitVec.ofNat 8 (s.x.toNat + 255)) s

/-- `i` is encoded in `bytes`; in every state it completes, does `f`, and PC moves past `bytes`, modulo 2^16. -/
def Performs (i : Instr) (bytes : List Byte) (f : State → State) : Prop :=
  encode i = bytes ∧ ∀ s : State, exec i s = .next { f s with pc := s.pc + BitVec.ofNat 16 bytes.length }

/-- `i` is encoded in `bytes`; in every state it completes, and changes nothing but PC, which moves past `bytes`. -/
def NoEffect (i : Instr) (bytes : List Byte) : Prop :=
  encode i = bytes ∧ ∀ s : State, exec i s = .next { s with pc := s.pc + BitVec.ofNat 16 bytes.length }

/-- The undefined bytes, as R68 lists them. -/
def undefinedBytes : List Byte := [
   0x02, 0x03, 0x04, 0x07, 0x0B, 0x0C, 0x0F, 0x12, 0x13, 0x14, 0x17, 0x1A, 0x1B, 0x1C, 0x1F, 0x22, 0x23, 0x27,
   0x2B, 0x2F, 0x32, 0x33, 0x34, 0x37, 0x3A, 0x3B, 0x3C, 0x3F, 0x42, 0x43, 0x44, 0x47, 0x4B, 0x4F, 0x52, 0x53,
   0x54, 0x57, 0x5A, 0x5B, 0x5C, 0x5F, 0x62, 0x63, 0x64, 0x67, 0x6B, 0x6F, 0x72, 0x73, 0x74, 0x77, 0x7A, 0x7B,
   0x7C, 0x7F, 0x80, 0x82, 0x83, 0x87, 0x89, 0x8B, 0x8F, 0x92, 0x93, 0x97, 0x9B, 0x9C, 0x9E, 0x9F, 0xA3, 0xA7,
   0xAB, 0xAF, 0xB2, 0xB3, 0xB7, 0xBB, 0xBF, 0xC2, 0xC3, 0xC7, 0xCB, 0xCF, 0xD2, 0xD3, 0xD4, 0xD7, 0xDA, 0xDB,
   0xDC, 0xDF, 0xE2, 0xE3, 0xE7, 0xEB, 0xEF, 0xF2, 0xF3, 0xF4, 0xF7, 0xFA, 0xFB, 0xFC, 0xFF]

/-- The tags with semantics (R69). -/
def implementedTags : List Tag := [.adc, .lda, .ldx, .ldy, .dex, .nop]

/-- The state after n steps that all go on; none where one of them halts. -/
def afterSteps (cfg : Config State) : Nat → State → Option State
  | 0, s => some s
  | n + 1, s =>
    match engineStep cfg s with
    | .halted _ => none
    | .running s' => afterSteps cfg n s'

/-- A state with bits 5 to 2 of P replaced by those of `q`. -/
def withReserved (q : Byte) (s : State) : State := { s with p := (s.p &&& 0xC3) ||| (q &&& 0x3C) }

/-- The same change made to the state an outcome holds. -/
def mapNext (f : State → State) : Result → Result
  | .next s => .next (f s)
  | .fault r => .fault r
  | .refused r => .refused r

end Sys2Proof.Claims

open Sys2Proof Sys2Proof.Machine Sys2Proof.Claims

/-- After reset A, X, Y, PC and P are 0, so that C, Z, V, N and bits 2 to 5 of P are 0, and every address of memory reads 0x00 (R32). -/
def Obligations.ResetZeroesEveryRegisterAndByte : Prop :=
  State.reset.a = 0 ∧ State.reset.x = 0 ∧ State.reset.y = 0 ∧ State.reset.pc = 0 ∧ State.reset.p = 0 ∧
  (∀ bit : StatusBit, State.reset.flag bit = false) ∧
  ∀ a : Word, memRead State.reset.mem a = 0x00

/-- Right after reset memory is in canonical form and bits 5 to 2 of P read 0. The canonical form is the model's own (log 9). -/
def Obligations.ResetMeetsTheInvariant : Prop :=
  Inv State.reset

/-- From every state in which memory is in canonical form and bits 5 to 2 of P read 0, a step that answers a next state leaves a state of the same kind. The canonical form is the model's own (log 9). -/
def Obligations.EveryStepKeepsTheInvariant : Prop :=
  ∀ s t : State, Inv s → step s = .next t → Inv t

/-- From every state whose memory is in canonical form, any sequence of host actions (reads, writes, resets, entry points, runs of the core under any fuel) leaves a state whose memory is in canonical form. The canonical form is the model's own (log 9). -/
def Obligations.HostAndCoreTogetherKeepMemoryCanonical : Prop :=
  ∀ (actions : List HostAction) (s : State), Memory.wf s.mem = true →
    Memory.wf (actions.foldl (fun t action => hostAct action t) s).mem = true

/-- If two memories are in canonical form and every 16-bit address reads the same in both, they are the same list. The canonical form is the model's own (log 9). -/
def Obligations.CanonicalMemoriesThatReadAlikeAreEqual : Prop :=
  ∀ m n : Memory, Memory.wf m = true → Memory.wf n = true →
    (∀ a : Word, memRead m a = memRead n a) → m = n

/-- In a state whose memory is in canonical form, MemWrite(a, 1, v) makes a read v, leaves every other address, A, X, Y, PC and P; and whatever instruction is executed, every address reads as before (R37). -/
def Obligations.OnlyTheHostsWriteChangesMemory : Prop :=
  (∀ (s : State) (a : Word) (v : Byte), Memory.wf s.mem = true →
    memRead (memWrite a v s).mem a = v ∧
    (∀ b : Word, b ≠ a → memRead (memWrite a v s).mem b = memRead s.mem b) ∧
    memWrite a v s = { s with mem := (memWrite a v s).mem }) ∧
  ∀ (i : Instr) (s t : State), exec i s = .next t → ∀ a : Word, memRead t.mem a = memRead s.mem a

/-- MemReadSlice(a, n) has n bytes, byte k is the byte at a + k modulo 2^16, it is empty for n = 0, and the core asks for at most 2 bytes (R36). -/
def Obligations.SliceReadsConsecutiveBytesModulo65536 : Prop :=
  (∀ (s : State) (a : Word) (n : Nat),
    (memReadSlice s.mem a n).length = n ∧
    ∀ k : Nat, k < n → (memReadSlice s.mem a n)[k]? = some (byteAt s (a.toNat + k))) ∧
  (∀ (s : State) (a : Word), memReadSlice s.mem a 0 = []) ∧
  ∀ mode : Mode, extraBytes mode ≤ 2

/-- For every instruction with every value of its operand bytes, and whatever bytes follow it, decoding its encoding gives that instruction and those following bytes. -/
def Obligations.DecodingAnEncodedInstructionGivesItBack : Prop :=
  ∀ (i : Instr) (rest : List Byte), decode (encode i ++ rest) = .ok (i, rest)

/-- If a list of bytes decodes to an instruction and a rest, the list is that instruction's encoding followed by the rest: no bit of an encoding is dropped and no two encodings share a meaning. -/
def Obligations.EveryDecodedListIsTheEncodingOfItsInstruction : Prop :=
  ∀ (bytes rest : List Byte) (i : Instr), decode bytes = .ok (i, rest) → bytes = encode i ++ rest

/-- Words of every family written out from the *Encoding* lines decode to the instruction they stand for: ADC #$01, LDA $1234, LDX $10,Y, LDY $1234,X, DEX, NOP, ORA ($20,X), STA ($20),Y, ASL A, BNE, JMP ($1234), BRK, TXS, SED, PHA, CMP $1234,Y, INC $10; and 0x02 is no instruction. -/
def Obligations.WordsWrittenOutFromTheTableDecodeAsTheySay : Prop :=
  decode [0b01101001, 0x01] = .ok (.adcImm 0x01, []) ∧
  decode [0b10101101, 0x34, 0x12] = .ok (.ldaAbs 0x34 0x12, []) ∧
  decode [0b10110110, 0x10] = .ok (.ldxZpy 0x10, []) ∧
  decode [0b10111100, 0x34, 0x12] = .ok (.ldyAbsx 0x34 0x12, []) ∧
  decode [0b11001010] = .ok (.dexImp, []) ∧
  decode [0b11101010] = .ok (.nopImp, []) ∧
  decode [0b00000001, 0x20] = .ok (.oraIzx 0x20, []) ∧
  decode [0b10010001, 0x20] = .ok (.staIzy 0x20, []) ∧
  decode [0b00001010] = .ok (.aslAcc, []) ∧
  decode [0b11010000, 0xFD] = .ok (.bneRel 0xFD, []) ∧
  decode [0b01101100, 0x34, 0x12] = .ok (.jmpInd 0x34 0x12, []) ∧
  decode [0b00000000] = .ok (.brkImp, []) ∧
  decode [0b10011010] = .ok (.txsImp, []) ∧
  decode [0b11111000] = .ok (.sedImp, []) ∧
  decode [0b01001000] = .ok (.phaImp, []) ∧
  decode [0b11011001, 0x34, 0x12] = .ok (.cmpAbsy 0x34 0x12, []) ∧
  decode [0b11100110, 0x10] = .ok (.incZp 0x10, []) ∧
  decode [0x02] = .error (.undefinedOpcode 0x02)

/-- When the three bytes from PC on, modulo 2^16, decode to an instruction, step at that state is exec of that instruction at that state (exec itself resolves the operand, moves PC past the instruction and executes), and the next state has PC moved by the instruction's length. -/
def Obligations.StepRunsTheInstructionDecodedAtPc : Prop :=
  ∀ (s : State) (i : Instr) (rest : List Byte), decode (memReadSlice s.mem s.pc 3) = .ok (i, rest) →
    step s = exec i s ∧ ∃ t, step s = .next t ∧ t.pc = s.pc + BitVec.ofNat 16 (encode i).length

/-- A step stops with the halt exactly when the byte at PC is one of the 105 bytes R68 lists, which is exactly when the opcode table has no entry for it; in every other state it answers a next state, and it never refuses. That the halt is carried as Fault.halted is the model's own (log 1): R79 and R150 give no fault outcome. -/
def Obligations.StepHaltsExactlyOnTheUndefinedBytes : Prop :=
  ∀ s : State,
    (step s = .fault .halted ↔ memRead s.mem s.pc ∈ undefinedBytes) ∧
    (Halted s ↔ memRead s.mem s.pc ∈ undefinedBytes) ∧
    SafeStep s

/-- For every state, step answers what the pseudocode of R73, R74, R77, R78 and R79 answers with OPCODE_TABLE = T6502, the default resolver and FLAG_RULE = Chip: Running(s') is the next state s', Halted(s) is the halt. That the halt is carried as Fault.halted is the model's own (log 1). -/
def Obligations.StepIsTheEngineAtItsDefaults : Prop :=
  ∀ s : State, step s = (engineStep defaultConfig s).toResult

/-- If a step answers a next state, the opcode table has an entry for the byte at PC and PC has moved by 1 + EXTRA(mode) of that entry modulo 2^16: no instruction transfers control. -/
def Obligations.PcMovesByTheLengthOfTheOpcodeAtPc : Prop :=
  ∀ s t : State, step s = .next t →
    ∃ tag mode, t6502 (memRead s.mem s.pc) = some (tag, mode) ∧
      t.pc.toNat = (s.pc.toNat + 1 + extraBytes mode) % 65536

/-- Executing an instruction with another PC gives the same next state but for PC, which is moved by the same length: no instruction with semantics reads PC. -/
def Obligations.ExecutionDoesNotReadPc : Prop :=
  ∀ (i : Instr) (s t : State) (w : Word), exec i s = .next t →
    exec i { s with pc := w } = .next { t with pc := w + BitVec.ofNat 16 (encode i).length }

/-- Every instruction in every state answers a next state. Memory reads as before at every address, bits 5 to 2 of P are unchanged, A changes only in LDA and ADC, X only in LDX and DEX, Y only in LDY, C and V only in ADC, Z and N only in LDA, LDX, LDY, ADC and DEX; PC moves past the instruction. -/
def Obligations.ExecCompletesAndKeepsItsFrame : Prop :=
  ∀ (i : Instr) (s : State), ∃ t, exec i s = .next t ∧
    (∀ a : Word, memRead t.mem a = memRead s.mem a) ∧
    t.pc = s.pc + BitVec.ofNat 16 (encode i).length ∧
    t.p &&& 0x3C = s.p &&& 0x3C ∧
    (i.tag ∉ [Tag.lda, .adc] → t.a = s.a) ∧
    (i.tag ∉ [Tag.ldx, .dex] → t.x = s.x) ∧
    (i.tag ∉ [Tag.ldy] → t.y = s.y) ∧
    (i.tag ∉ [Tag.adc] → t.flag .c = s.flag .c ∧ t.flag .v = s.flag .v) ∧
    (i.tag ∉ [Tag.lda, .ldx, .ldy, .adc, .dex] → t.flag .z = s.flag .z ∧ t.flag .n = s.flag .n)

/-- Each form of ADC has its opcode; in every state it completes: A becomes the low byte of the exact sum of A, the operand value and C; C is set iff the sum is at least 256; V iff A and the value share bit 7 and the result's differs; Z iff the result is 0; N is its bit 7; X, Y, memory and bits 5 to 2 of P are unchanged; PC moves by 2 or 3. The value is the immediate byte or the byte at the effective address. That is the normative FLAG_RULE = Chip (log 4). Under every setting of the parameters the dispatcher adds an Immediate value, or the byte at an Address, with C and V by the setting of FLAG_RULE (R86 and R87, or R88), and does nothing for Implied. -/
def Obligations.AdcAddsWithCarryInEveryMode : Prop :=
  (∀ b lo hi : Byte,
  Performs (.adcIzx b) [0x61, b] (fun s => added (byteAt s (indexedIndirectX s b)) s) ∧
  Performs (.adcZp b) [0x65, b] (fun s => added (byteAt s (zeroPage b)) s) ∧
  Performs (.adcImm b) [0x69, b] (added b) ∧
  Performs (.adcAbs lo hi) [0x6D, lo, hi] (fun s => added (byteAt s (absolute lo hi)) s) ∧
  Performs (.adcIzy b) [0x71, b] (fun s => added (byteAt s (indirectIndexedY s b)) s) ∧
  Performs (.adcZpx b) [0x75, b] (fun s => added (byteAt s (zeroPageX s b)) s) ∧
  Performs (.adcAbsy lo hi) [0x79, lo, hi] (fun s => added (byteAt s (absoluteY s lo hi)) s) ∧
  Performs (.adcAbsx lo hi) [0x7D, lo, hi] (fun s => added (byteAt s (absoluteX s lo hi)) s)) ∧
  (∀ (cfg : Config State) (s : State) (v : Byte) (a : Word),
    executeInstruction cfg .adc (.immediate v) s = addedUnder cfg.flagRule v s ∧
    executeInstruction cfg .adc (.address a) s = addedUnder cfg.flagRule (memRead s.mem a) s ∧
    executeInstruction cfg .adc .implied s = s)

/-- Each form of LDA has its opcode; in every state it completes: A becomes the immediate byte or the byte at the effective address, Z is set iff it is 0, N is its bit 7, C, V, bits 5 to 2 of P, the other registers and memory are unchanged, and PC moves by 2 or 3. Paired with Implied, LDA does nothing. -/
def Obligations.LdaLoadsAInEveryMode : Prop :=
  (∀ b lo hi : Byte,
  Performs (.ldaIzx b) [0xA1, b] (fun s => loadedA (byteAt s (indexedIndirectX s b)) s) ∧
  Performs (.ldaZp b) [0xA5, b] (fun s => loadedA (byteAt s (zeroPage b)) s) ∧
  Performs (.ldaImm b) [0xA9, b] (loadedA b) ∧
  Performs (.ldaAbs lo hi) [0xAD, lo, hi] (fun s => loadedA (byteAt s (absolute lo hi)) s) ∧
  Performs (.ldaIzy b) [0xB1, b] (fun s => loadedA (byteAt s (indirectIndexedY s b)) s) ∧
  Performs (.ldaZpx b) [0xB5, b] (fun s => loadedA (byteAt s (zeroPageX s b)) s) ∧
  Performs (.ldaAbsy lo hi) [0xB9, lo, hi] (fun s => loadedA (byteAt s (absoluteY s lo hi)) s) ∧
  Performs (.ldaAbsx lo hi) [0xBD, lo, hi] (fun s => loadedA (byteAt s (absoluteX s lo hi)) s)) ∧
  (∀ s : State, executeInstruction defaultConfig .lda .implied s = s)

/-- Each form of LDX has its opcode; in every state it completes: X becomes the immediate byte or the byte at the effective address, Z is set iff it is 0, N is its bit 7, C, V, bits 5 to 2 of P, the other registers and memory are unchanged, and PC moves by 2 or 3. Paired with Implied, LDX does nothing. -/
def Obligations.LdxLoadsXInEveryMode : Prop :=
  (∀ b lo hi : Byte,
  Performs (.ldxImm b) [0xA2, b] (loadedX b) ∧
  Performs (.ldxZp b) [0xA6, b] (fun s => loadedX (byteAt s (zeroPage b)) s) ∧
  Performs (.ldxAbs lo hi) [0xAE, lo, hi] (fun s => loadedX (byteAt s (absolute lo hi)) s) ∧
  Performs (.ldxZpy b) [0xB6, b] (fun s => loadedX (byteAt s (zeroPageY s b)) s) ∧
  Performs (.ldxAbsy lo hi) [0xBE, lo, hi] (fun s => loadedX (byteAt s (absoluteY s lo hi)) s)) ∧
  (∀ s : State, executeInstruction defaultConfig .ldx .implied s = s)

/-- Each form of LDY has its opcode; in every state it completes: Y becomes the immediate byte or the byte at the effective address, Z is set iff it is 0, N is its bit 7, C, V, bits 5 to 2 of P, the other registers and memory are unchanged, and PC moves by 2 or 3. Paired with Implied, LDY does nothing. -/
def Obligations.LdyLoadsYInEveryMode : Prop :=
  (∀ b lo hi : Byte,
  Performs (.ldyImm b) [0xA0, b] (loadedY b) ∧
  Performs (.ldyZp b) [0xA4, b] (fun s => loadedY (byteAt s (zeroPage b)) s) ∧
  Performs (.ldyAbs lo hi) [0xAC, lo, hi] (fun s => loadedY (byteAt s (absolute lo hi)) s) ∧
  Performs (.ldyZpx b) [0xB4, b] (fun s => loadedY (byteAt s (zeroPageX s b)) s) ∧
  Performs (.ldyAbsx lo hi) [0xBC, lo, hi] (fun s => loadedY (byteAt s (absoluteX s lo hi)) s)) ∧
  (∀ s : State, executeInstruction defaultConfig .ldy .implied s = s)

/-- DEX is the byte 0xCA; in every state it completes: X becomes X + 255 modulo 256, Z is set iff the result is 0, N is its bit 7, C, V, bits 5 to 2 of P, A, Y and memory are unchanged, PC moves by 1. Paired with an Immediate or Address operand, DEX does nothing. -/
def Obligations.DexDecrementsXModulo256 : Prop :=
  Performs .dexImp [0xCA] decrementedX ∧
  (∀ (s : State) (v : Byte), executeInstruction defaultConfig .dex (.immediate v) s = s) ∧
  (∀ (s : State) (a : Word), executeInstruction defaultConfig .dex (.address a) s = s)

/-- NOP is the byte 0xEA; in every state it completes and changes nothing but PC, which moves by 1 modulo 2^16; with any operand the dispatcher leaves the state as it is. -/
def Obligations.NopOnlyAdvancesPc : Prop :=
  NoEffect .nopImp [0xEA] ∧
  ∀ (operand : Operand) (s : State), executeInstruction defaultConfig .nop operand s = s

/-- Each form of AND, BIT, EOR, ORA has its opcode; in every state it completes and changes no register, flag or memory byte but PC, which moves past the instruction modulo 2^16. The diagnostic trace is no part of the statement (R34). -/
def Obligations.LogicInstructionsOnlyAdvancePc : Prop :=
  ∀ b lo hi : Byte,
  NoEffect (.andIzx b) [0x21, b] ∧
  NoEffect (.andZp b) [0x25, b] ∧
  NoEffect (.andImm b) [0x29, b] ∧
  NoEffect (.andAbs lo hi) [0x2D, lo, hi] ∧
  NoEffect (.andIzy b) [0x31, b] ∧
  NoEffect (.andZpx b) [0x35, b] ∧
  NoEffect (.andAbsy lo hi) [0x39, lo, hi] ∧
  NoEffect (.andAbsx lo hi) [0x3D, lo, hi] ∧
  NoEffect (.bitZp b) [0x24, b] ∧
  NoEffect (.bitAbs lo hi) [0x2C, lo, hi] ∧
  NoEffect (.eorIzx b) [0x41, b] ∧
  NoEffect (.eorZp b) [0x45, b] ∧
  NoEffect (.eorImm b) [0x49, b] ∧
  NoEffect (.eorAbs lo hi) [0x4D, lo, hi] ∧
  NoEffect (.eorIzy b) [0x51, b] ∧
  NoEffect (.eorZpx b) [0x55, b] ∧
  NoEffect (.eorAbsy lo hi) [0x59, lo, hi] ∧
  NoEffect (.eorAbsx lo hi) [0x5D, lo, hi] ∧
  NoEffect (.oraIzx b) [0x01, b] ∧
  NoEffect (.oraZp b) [0x05, b] ∧
  NoEffect (.oraImm b) [0x09, b] ∧
  NoEffect (.oraAbs lo hi) [0x0D, lo, hi] ∧
  NoEffect (.oraIzy b) [0x11, b] ∧
  NoEffect (.oraZpx b) [0x15, b] ∧
  NoEffect (.oraAbsy lo hi) [0x19, lo, hi] ∧
  NoEffect (.oraAbsx lo hi) [0x1D, lo, hi]

/-- Each form of CMP, CPX, CPY, SBC has its opcode; in every state it completes and changes no register, flag or memory byte but PC, which moves past the instruction modulo 2^16. The diagnostic trace is no part of the statement (R34). -/
def Obligations.CompareAndSubtractOnlyAdvancePc : Prop :=
  ∀ b lo hi : Byte,
  NoEffect (.cmpIzx b) [0xC1, b] ∧
  NoEffect (.cmpZp b) [0xC5, b] ∧
  NoEffect (.cmpImm b) [0xC9, b] ∧
  NoEffect (.cmpAbs lo hi) [0xCD, lo, hi] ∧
  NoEffect (.cmpIzy b) [0xD1, b] ∧
  NoEffect (.cmpZpx b) [0xD5, b] ∧
  NoEffect (.cmpAbsy lo hi) [0xD9, lo, hi] ∧
  NoEffect (.cmpAbsx lo hi) [0xDD, lo, hi] ∧
  NoEffect (.cpxImm b) [0xE0, b] ∧
  NoEffect (.cpxZp b) [0xE4, b] ∧
  NoEffect (.cpxAbs lo hi) [0xEC, lo, hi] ∧
  NoEffect (.cpyImm b) [0xC0, b] ∧
  NoEffect (.cpyZp b) [0xC4, b] ∧
  NoEffect (.cpyAbs lo hi) [0xCC, lo, hi] ∧
  NoEffect (.sbcIzx b) [0xE1, b] ∧
  NoEffect (.sbcZp b) [0xE5, b] ∧
  NoEffect (.sbcImm b) [0xE9, b] ∧
  NoEffect (.sbcAbs lo hi) [0xED, lo, hi] ∧
  NoEffect (.sbcIzy b) [0xF1, b] ∧
  NoEffect (.sbcZpx b) [0xF5, b] ∧
  NoEffect (.sbcAbsy lo hi) [0xF9, lo, hi] ∧
  NoEffect (.sbcAbsx lo hi) [0xFD, lo, hi]

/-- Each form of ASL, LSR, ROL, ROR has its opcode; in every state it completes and changes no register, flag or memory byte but PC, which moves past the instruction modulo 2^16. The diagnostic trace is no part of the statement (R34). -/
def Obligations.ShiftsAndRotatesOnlyAdvancePc : Prop :=
  ∀ b lo hi : Byte,
  NoEffect (.aslZp b) [0x06, b] ∧
  NoEffect .aslAcc [0x0A] ∧
  NoEffect (.aslAbs lo hi) [0x0E, lo, hi] ∧
  NoEffect (.aslZpx b) [0x16, b] ∧
  NoEffect (.aslAbsx lo hi) [0x1E, lo, hi] ∧
  NoEffect (.lsrZp b) [0x46, b] ∧
  NoEffect .lsrAcc [0x4A] ∧
  NoEffect (.lsrAbs lo hi) [0x4E, lo, hi] ∧
  NoEffect (.lsrZpx b) [0x56, b] ∧
  NoEffect (.lsrAbsx lo hi) [0x5E, lo, hi] ∧
  NoEffect (.rolZp b) [0x26, b] ∧
  NoEffect .rolAcc [0x2A] ∧
  NoEffect (.rolAbs lo hi) [0x2E, lo, hi] ∧
  NoEffect (.rolZpx b) [0x36, b] ∧
  NoEffect (.rolAbsx lo hi) [0x3E, lo, hi] ∧
  NoEffect (.rorZp b) [0x66, b] ∧
  NoEffect .rorAcc [0x6A] ∧
  NoEffect (.rorAbs lo hi) [0x6E, lo, hi] ∧
  NoEffect (.rorZpx b) [0x76, b] ∧
  NoEffect (.rorAbsx lo hi) [0x7E, lo, hi]

/-- Each form of DEC, DEY, INC, INX, INY has its opcode; in every state it completes and changes no register, flag or memory byte but PC, which moves past the instruction modulo 2^16. The diagnostic trace is no part of the statement (R34). -/
def Obligations.IncrementsAndDecrementsOnlyAdvancePc : Prop :=
  ∀ b lo hi : Byte,
  NoEffect (.decZp b) [0xC6, b] ∧
  NoEffect (.decAbs lo hi) [0xCE, lo, hi] ∧
  NoEffect (.decZpx b) [0xD6, b] ∧
  NoEffect (.decAbsx lo hi) [0xDE, lo, hi] ∧
  NoEffect .deyImp [0x88] ∧
  NoEffect (.incZp b) [0xE6, b] ∧
  NoEffect (.incAbs lo hi) [0xEE, lo, hi] ∧
  NoEffect (.incZpx b) [0xF6, b] ∧
  NoEffect (.incAbsx lo hi) [0xFE, lo, hi] ∧
  NoEffect .inxImp [0xE8] ∧
  NoEffect .inyImp [0xC8]

/-- Each form of STA, STX, STY has its opcode; in every state it completes and changes no register, flag or memory byte but PC, which moves past the instruction modulo 2^16. The diagnostic trace is no part of the statement (R34). -/
def Obligations.StoresWriteNoMemory : Prop :=
  ∀ b lo hi : Byte,
  NoEffect (.staIzx b) [0x81, b] ∧
  NoEffect (.staZp b) [0x85, b] ∧
  NoEffect (.staAbs lo hi) [0x8D, lo, hi] ∧
  NoEffect (.staIzy b) [0x91, b] ∧
  NoEffect (.staZpx b) [0x95, b] ∧
  NoEffect (.staAbsy lo hi) [0x99, lo, hi] ∧
  NoEffect (.staAbsx lo hi) [0x9D, lo, hi] ∧
  NoEffect (.stxZp b) [0x86, b] ∧
  NoEffect (.stxAbs lo hi) [0x8E, lo, hi] ∧
  NoEffect (.stxZpy b) [0x96, b] ∧
  NoEffect (.styZp b) [0x84, b] ∧
  NoEffect (.styAbs lo hi) [0x8C, lo, hi] ∧
  NoEffect (.styZpx b) [0x94, b]

/-- Each form of TAX, TAY, TSX, TXA, TXS, TYA has its opcode; in every state it completes and changes no register, flag or memory byte but PC, which moves past the instruction modulo 2^16. The diagnostic trace is no part of the statement (R34). -/
def Obligations.TransfersOnlyAdvancePc : Prop :=
  NoEffect .taxImp [0xAA] ∧
  NoEffect .tayImp [0xA8] ∧
  NoEffect .tsxImp [0xBA] ∧
  NoEffect .txaImp [0x8A] ∧
  NoEffect .txsImp [0x9A] ∧
  NoEffect .tyaImp [0x98]

/-- Each form of BCC, BCS, BEQ, BMI, BPL, BVC, BVS, BNE has its opcode; in every state it completes and changes no register, flag or memory byte but PC, which moves past the instruction modulo 2^16: no branch is taken, whatever the flags. The diagnostic trace is no part of the statement (R34). -/
def Obligations.BranchesAreNeverTaken : Prop :=
  ∀ b : Byte,
  NoEffect (.bccRel b) [0x90, b] ∧
  NoEffect (.bcsRel b) [0xB0, b] ∧
  NoEffect (.beqRel b) [0xF0, b] ∧
  NoEffect (.bmiRel b) [0x30, b] ∧
  NoEffect (.bplRel b) [0x10, b] ∧
  NoEffect (.bvcRel b) [0x50, b] ∧
  NoEffect (.bvsRel b) [0x70, b] ∧
  NoEffect (.bneRel b) [0xD0, b]

/-- Each form of BRK, JMP, JSR, RTI, RTS has its opcode; in every state it completes and changes no register, flag or memory byte but PC, which moves past the instruction modulo 2^16: no vector is read, nothing is pushed or restored, control goes to the next instruction. The diagnostic trace is no part of the statement (R34). -/
def Obligations.JumpsCallsAndReturnsFallThrough : Prop :=
  ∀ lo hi : Byte,
  NoEffect .brkImp [0x00] ∧
  NoEffect (.jmpAbs lo hi) [0x4C, lo, hi] ∧
  NoEffect (.jmpInd lo hi) [0x6C, lo, hi] ∧
  NoEffect (.jsrAbs lo hi) [0x20, lo, hi] ∧
  NoEffect .rtiImp [0x40] ∧
  NoEffect .rtsImp [0x60]

/-- Each form of CLC, CLD, CLI, CLV, SEI, SEC, SED has its opcode; in every state it completes and changes no register, flag or memory byte but PC, which moves past the instruction modulo 2^16. Even after the host has set D, ADC adds in binary. The diagnostic trace is no part of the statement (R34). -/
def Obligations.FlagInstructionsChangeNoFlag : Prop :=
  NoEffect .clcImp [0x18] ∧
  NoEffect .cldImp [0xD8] ∧
  NoEffect .cliImp [0x58] ∧
  NoEffect .clvImp [0xB8] ∧
  NoEffect .seiImp [0x78] ∧
  NoEffect .secImp [0x38] ∧
  NoEffect .sedImp [0xF8] ∧
  ∀ (cfg : Config State) (v : Byte) (a : Word) (s : State),
    executeInstruction cfg .adc (.immediate v) (setWithMask 0x08 0x08 s) =
      addedUnder cfg.flagRule v (setWithMask 0x08 0x08 s) ∧
    executeInstruction cfg .adc (.address a) (setWithMask 0x08 0x08 s) =
      addedUnder cfg.flagRule (memRead s.mem a) (setWithMask 0x08 0x08 s)

/-- Each form of PHA, PHP, PLA, PLP has its opcode; in every state it completes and changes no register, flag or memory byte but PC, which moves past the instruction modulo 2^16. The diagnostic trace is no part of the statement (R34). -/
def Obligations.StackInstructionsChangeNothing : Prop :=
  NoEffect .phaImp [0x48] ∧
  NoEffect .phpImp [0x08] ∧
  NoEffect .plaImp [0x68] ∧
  NoEffect .plpImp [0x28]

/-- SetFlags(mask, new) makes each bit of P the bit of new where the mask has it and keeps it elsewhere, and changes nothing else. After ADC, P is the old P after a replace under {C, V} and one under {Z, N}; after LDA, LDX, LDY and DEX, after one under {Z, N}; after every other instruction, P is unchanged (R28). -/
def Obligations.EveryStatusWriteIsAMaskedReplace : Prop :=
  (∀ (mask new : Byte) (s : State),
    setFlags mask new s = { s with p := (setFlags mask new s).p } ∧
    ∀ k : Nat, k < 8 → (setFlags mask new s).p.getLsbD k =
      if mask.getLsbD k = true then new.getLsbD k else s.p.getLsbD k) ∧
  ∀ (i : Instr) (s t : State), exec i s = .next t →
    (i.tag = .adc → ∃ first second : Byte, t.p = maskedReplace 0x82 second (maskedReplace 0x41 first s.p)) ∧
    (i.tag ∈ [Tag.lda, .ldx, .ldy, .dex] → ∃ new : Byte, t.p = maskedReplace 0x82 new s.p) ∧
    (i.tag ∉ [Tag.adc, .lda, .ldx, .ldy, .dex] → t.p = s.p)

/-- After an ADC in any mode and then an LDA, LDX, LDY or DEX in any mode, C and V hold what the ADC gave them, and Z and N are those of the value the later instruction wrote. -/
def Obligations.CarryAndOverflowSurviveALoad : Prop :=
  ∀ (i j : Instr) (r : Reg) (s t u : State), i.tag = .adc →
    (j.tag, r) ∈ [(Tag.lda, Reg.a), (.ldx, .x), (.ldy, .y), (.dex, .x)] →
    exec i s = .next t → exec j t = .next u →
    u.flag .c = t.flag .c ∧ u.flag .v = t.flag .v ∧
    u.flag .z = decide (readReg r u = 0x00) ∧ u.flag .n = (readReg r u).getLsbD 7

/-- load_accumulator, load_x_register and load_y_register load their register and set Z and N; add_with_carry adds (under the normative FLAG_RULE, log 4); dec_x decrements X modulo 256; each gives the same state but for PC from whatever PC it is called, and leaves PC and memory (R93). -/
def Obligations.AluEntryPointsDoNotTouchPc : Prop :=
  ∀ (v : Byte) (s : State) (w : Word),
    loadAccumulator v s = loadedA v s ∧ loadXRegister v s = loadedX v s ∧ loadYRegister v s = loadedY v s ∧
    addWithCarry v s = added v s ∧ decX s = decrementedX s ∧
    ∀ f ∈ [loadAccumulator v, loadXRegister v, loadYRegister v, addWithCarry v, decX],
      f { s with pc := w } = { f s with pc := w } ∧ (f s).pc = s.pc ∧ (f s).mem = s.mem

/-- Under Chip and under SourceLiteral alike A becomes the exact sum modulo 256, Z and N are those of the result, and X, Y, PC, memory and bits 5 to 2 of P are unchanged; C and V follow R86 and R87 under Chip, and the literal comparisons of R88 under SourceLiteral. -/
def Obligations.AddWithCarryUnderEitherFlagRule : Prop :=
  ∀ (v : Byte) (s : State),
    addWithCarryUnder .chip v s = added v s ∧ addWithCarryUnder .sourceLiteral v s = addedLiteral v s

/-- Under FLAG_RULE = Chip the carry-out is set iff unsigned(a) + unsigned(v) + c is at least 256, and when c = 0 that is exactly the comparison unsigned(r) < unsigned(a) of the source's section 4.3 (R86). -/
def Obligations.CarryIsSetIffTheUnsignedSumWraps : Prop :=
  ∀ (v : Byte) (s : State),
    (addWithCarryUnder .chip v s).flag .c = decide (s.a.toNat + v.toNat + (s.flag .c).toNat ≥ 256) ∧
    (s.flag .c = false →
      (addWithCarryUnder .chip v s).flag .c = decide ((addWithCarryUnder .chip v s).a.toNat < s.a.toNat))

/-- Under FLAG_RULE = Chip V is set iff A and the operand share bit 7 and the result's bit 7 differs (R87), and that is exactly when signed(A) + signed(v) + c is below -128 or above 127. -/
def Obligations.OverflowIsSetIffTheSignedSumIsOutOfRange : Prop :=
  ∀ (v : Byte) (s : State),
    (addWithCarryUnder .chip v s).flag .v = signsOverflow s.a v (addWithCarryUnder .chip v s).a ∧
    ((addWithCarryUnder .chip v s).flag .v = true ↔
      s.a.toInt + v.toInt + ((s.flag .c).toNat : Int) < -128 ∨
      127 < s.a.toInt + v.toInt + ((s.flag .c).toNat : Int))

/-- Over all A, operands and carry-ins, C differs exactly when the carry-in is 1 and the operand is 0xFF, where Chip gives 1 and SourceLiteral 0; V differs exactly when the carry-in is 1 and (A, operand) is (0x00, 0x7F) or (0x7F, 0x00), where Chip gives 1 and SourceLiteral 0; A, X, Y, PC, memory and every other bit of P are the same (R88). -/
def Obligations.FlagRulesDifferInExactlyTheListedCases : Prop :=
  ∀ (v : Byte) (s : State),
    (let chip := addWithCarryUnder .chip v s
     let lit := addWithCarryUnder .sourceLiteral v s
     (chip.flag .c ≠ lit.flag .c ↔ s.flag .c = true ∧ v = 0xFF) ∧
     (chip.flag .c ≠ lit.flag .c → chip.flag .c = true ∧ lit.flag .c = false) ∧
     (chip.flag .v ≠ lit.flag .v ↔
       s.flag .c = true ∧ ((s.a = 0x00 ∧ v = 0x7F) ∨ (s.a = 0x7F ∧ v = 0x00))) ∧
     (chip.flag .v ≠ lit.flag .v → chip.flag .v = true ∧ lit.flag .v = false) ∧
     lit.flag .c = decide (lit.a.toNat < s.a.toNat) ∧
     lit.flag .v = decide ((s.a.toInt < 0 ∧ v.toInt < 0 ∧ lit.a.toInt ≥ 0) ∨
       (s.a.toInt > 0 ∧ v.toInt > 0 ∧ lit.a.toInt ≤ 0)) ∧
     (∀ bit : StatusBit, bit ≠ .c → bit ≠ .v → chip.flag bit = lit.flag bit) ∧
     chip = { lit with p := chip.p })

/-- For R in A, X, Y: R becomes R + 255 modulo 256; Z is set iff the result is 0 and N is its bit 7; C, V, bits 5 to 2 of P, the other registers, PC and memory are unchanged; 0x00 becomes 0xFF with N = 1 and Z = 0, 0x80 becomes 0x7F with N = 0 and Z = 0, 0x01 becomes 0x00 with Z = 1 and N = 0 (R89). -/
def Obligations.DecrementWrapsModulo256InEveryRegister : Prop :=
  ∀ (r : Reg) (s : State),
    (readReg r (decrement r s)).toNat = ((readReg r s).toNat + 255) % 256 ∧
    (decrement r s).flag .z = decide ((readReg r (decrement r s)).toNat = 0) ∧
    (decrement r s).flag .n = decide (128 ≤ (readReg r (decrement r s)).toNat) ∧
    (∀ bit : StatusBit, bit ≠ .z → bit ≠ .n → (decrement r s).flag bit = s.flag bit) ∧
    (∀ r' : Reg, r' ≠ r → readReg r' (decrement r s) = readReg r' s) ∧
    (decrement r s).pc = s.pc ∧ (decrement r s).mem = s.mem ∧
    (readReg r s = 0x00 → readReg r (decrement r s) = 0xFF ∧ (decrement r s).flag .n = true ∧
      (decrement r s).flag .z = false) ∧
    (readReg r s = 0x80 → readReg r (decrement r s) = 0x7F ∧ (decrement r s).flag .n = false ∧
      (decrement r s).flag .z = false) ∧
    (readReg r s = 0x01 → readReg r (decrement r s) = 0x00 ∧ (decrement r s).flag .n = false ∧
      (decrement r s).flag .z = true)

/-- Replacing bits 5 to 2 of P (the unnamed bit, B, D and I) before a step gives the same outcome as replacing them after it: no instruction reads or writes them, ADC is binary whatever D holds. -/
def Obligations.BitsFiveToTwoOfPHaveNoInfluence : Prop :=
  ∀ (q : Byte) (s : State), step (withReserved q s) = mapNext (withReserved q) (step s)

/-- Implied and Accumulator give Implied; Immediate and Relative give the operand byte; ZeroPage, ZeroPageX and ZeroPageY give an address that wraps inside the zero page; Absolute and Indirect give the little-endian address; AbsoluteX and AbsoluteY add the unsigned index and wrap at 0xFFFF (R52 to R62). -/
def Obligations.OperandsOfTheDirectModes : Prop :=
  ∀ (s : State) (b lo hi : Byte),
    resolve .implied s [] = .implied ∧
    resolve .accumulator s [] = .implied ∧
    resolve .immediate s [b] = .immediate b ∧
    resolve .relative s [b] = .immediate b ∧
    resolve .zeroPage s [b] = .address (BitVec.ofNat 16 (zeroPage b)) ∧
    resolve .zeroPageX s [b] = .address (BitVec.ofNat 16 (zeroPageX s b)) ∧
    resolve .zeroPageY s [b] = .address (BitVec.ofNat 16 (zeroPageY s b)) ∧
    resolve .absolute s [lo, hi] = .address (BitVec.ofNat 16 (absolute lo hi)) ∧
    resolve .indirect s [lo, hi] = .address (BitVec.ofNat 16 (absolute lo hi)) ∧
    resolve .absoluteX s [lo, hi] = .address (BitVec.ofNat 16 (absoluteX s lo hi)) ∧
    resolve .absoluteY s [lo, hi] = .address (BitVec.ofNat 16 (absoluteY s lo hi))

/-- IndexedIndirectX reads the little-endian pointer at (operand + X) modulo 256 and the byte after it modulo 256; IndirectIndexedY reads the pointer at the operand byte and the byte after it modulo 256 and adds Y modulo 2^16 (R63, R64). -/
def Obligations.OperandsOfThePointerModes : Prop :=
  ∀ (s : State) (b : Byte),
    resolve .indexedIndirectX s [b] = .address (BitVec.ofNat 16 (indexedIndirectX s b)) ∧
    resolve .indirectIndexedY s [b] = .address (BitVec.ofNat 16 (indirectIndexedY s b))

/-- Under every setting of the parameters, execute_instruction leaves the whole state unchanged for every tag but ADC, LDA, LDX, LDY, DEX and NOP with any operand, for ADC, LDA, LDX and LDY with Implied, and for DEX with an Immediate or Address operand (R78). -/
def Obligations.EveryOtherPairIsANoOp : Prop :=
  ∀ (cfg : Config State) (tag : Tag) (operand : Operand) (s : State),
    (tag ∉ implementedTags → executeInstruction cfg tag operand s = s) ∧
    (tag ∈ [Tag.adc, .lda, .ldx, .ldy] → operand = .implied → executeInstruction cfg tag operand s = s) ∧
    (tag = .dex → operand ≠ .implied → executeInstruction cfg tag operand s = s)

/-- Under every setting of the parameters: a run halts in the state t after n instructions exactly when n steps that go on lead to t, the opcode table has no entry for the byte at PC in t, and the fuel is more than n; and a run from any state with no entry for the byte at PC halts at once with the state unchanged (R80, R83). -/
def Obligations.ARunEndsAtAnUndefinedByteAndStaysThere : Prop :=
  ∀ (cfg : Config State) (fuel n : Nat) (s t : State),
    (run cfg fuel s = .halted n t ↔
      n < fuel ∧ afterSteps cfg n s = some t ∧ cfg.opcodeTable (memRead t.mem t.pc) = none) ∧
    (cfg.opcodeTable (memRead s.mem s.pc) = none → run cfg (fuel + 1) s = .halted 0 s)

/-- After k steps the host interface's run is at a next state exactly when the run loop under fuel k has not halted, in the same state, and has stopped with the halt exactly when the run loop has halted; it never stops in another way. That the halt is carried as Fault.halted is the model's own (log 1): R79 gives no fault outcome. -/
def Obligations.TheHostsRunIsTheRunLoop : Prop :=
  ∀ (k : Nat) (s : State),
    Host.Core.run core k s =
      match run defaultConfig k s with
      | .notYetHalted t => .next t
      | .halted _ _ => .fault Fault.halted

/-- If the k bytes from PC on, modulo 2^16, are 0x00, then under T6502 a run under fuel k has not halted, with PC moved by k modulo 2^16 and nothing else changed; so a fresh machine with nothing loaded has not halted under any fuel; under a table without an entry for 0x00 a machine at a byte 0x00 halts at once (R170). -/
def Obligations.ZeroFilledMemoryNeverHalts : Prop :=
  (∀ (k : Nat) (s : State), (∀ j : Nat, j < k → byteAt s (s.pc.toNat + j) = 0x00) →
    run defaultConfig k s = .notYetHalted { s with pc := s.pc + BitVec.ofNat 16 k }) ∧
  (∀ k : Nat, run defaultConfig k State.reset = .notYetHalted { State.reset with pc := BitVec.ofNat 16 k }) ∧
  (∀ (cfg : Config State) (k : Nat) (s : State), memRead s.mem s.pc = 0x00 → cfg.opcodeTable 0x00 = none →
    run cfg (k + 1) s = .halted 0 s)

/-- In a state whose memory is in canonical form, booting a program of at most 65536 bytes makes byte k of the program the byte at entry + k modulo 2^16, sets PC to the entry, and leaves A, X, Y, P and every other byte; 0x02 is a sentinel that halts, 0x00 is not. -/
def Obligations.BootPlacesTheProgramAtPc : Prop :=
  (∀ (entry : Word) (program : List Byte) (s : State), Memory.wf s.mem = true → program.length ≤ 65536 →
    (∀ k : Nat, k < program.length →
      program[k]? = some (byteAt (boot entry program s) (entry.toNat + k))) ∧
    (∀ k : Nat, program.length ≤ k → k < 65536 →
      byteAt (boot entry program s) (entry.toNat + k) = byteAt s (entry.toNat + k)) ∧
    boot entry program s = { s with pc := entry, mem := (boot entry program s).mem }) ∧
  t6502 0x02 = none ∧ t6502 0x00 = some (.brk, .implied)

/-- In a state whose memory is in canonical form, if the bits of a table word decode to an instruction, then after placing that word at PC (the host's writes, log 8) the next step executes exactly that instruction: a host write is seen by the next fetch. -/
def Obligations.AnInstructionPlacedAtPcIsTheOneTheNextStepRuns : Prop :=
  ∀ (s : State) (nbits w : Nat) (i : Instr), Memory.wf s.mem = true → decodeTableWord nbits w = some i →
    step (s.withFetchWord nbits w) = exec i (s.withFetchWord nbits w) ∧
    (s.withFetchWord nbits w).pc = s.pc
end

