-- ==== Sys2Proof/WellFormed.lean ====
section
/-! DEFINITION. Sys2Proof/WellFormed.lean: which (tag, mode, operand bytes) triples are instructions. A constructor of
`Instr` carries its operands as bytes, so the checks are made on the untyped form below, the form in which R48
describes an instruction; `Instr.wellFormed` runs them on an instruction's own form. -/

namespace Sys2Proof

/-- An instruction as R48 describes it: a tag, a mode and the bytes after the opcode byte. -/
structure Form where
  tag : Tag
  mode : Mode
  bytes : List Byte
  deriving DecidableEq, Repr

/-- The modes each mnemonic has: the second table of R67, by mnemonic. -/
def modesOf : Tag → List Mode
  | .adc | .and | .cmp | .eor | .lda | .ora | .sbc =>
    [.indexedIndirectX, .zeroPage, .immediate, .absolute, .indirectIndexedY, .zeroPageX, .absoluteY, .absoluteX]
  | .asl | .lsr | .rol | .ror =>
    [.zeroPage, .accumulator, .absolute, .zeroPageX, .absoluteX]
  | .bcc | .bcs | .beq | .bmi | .bne | .bpl | .bvc | .bvs =>
    [.relative]
  | .bit =>
    [.zeroPage, .absolute]
  | .brk | .clc | .cld | .cli | .clv | .dex | .dey | .inx | .iny | .nop | .pha | .php | .pla | .plp
  | .rti | .rts | .sec | .sed | .sei | .tax | .tay | .tsx | .txa | .txs | .tya =>
    [.implied]
  | .cpx | .cpy =>
    [.immediate, .zeroPage, .absolute]
  | .dec | .inc =>
    [.zeroPage, .absolute, .zeroPageX, .absoluteX]
  | .jmp =>
    [.absolute, .indirect]
  | .jsr =>
    [.absolute]
  | .ldx =>
    [.immediate, .zeroPage, .absolute, .zeroPageY, .absoluteY]
  | .ldy =>
    [.immediate, .zeroPage, .absolute, .zeroPageX, .absoluteX]
  | .sta =>
    [.indexedIndirectX, .zeroPage, .absolute, .indirectIndexedY, .zeroPageX, .absoluteY, .absoluteX]
  | .stx =>
    [.zeroPage, .absolute, .zeroPageY]
  | .sty =>
    [.zeroPage, .absolute, .zeroPageX]

/-- First check: the table has the mode for the tag (R67). -/
def Form.modeAllowed (f : Form) : Bool := (modesOf f.tag).contains f.mode

/-- Second check: exactly `EXTRA(mode)` operand bytes follow the opcode byte (R48, R49). -/
def Form.bytesFit (f : Form) : Bool := f.bytes.length == extraBytes f.mode

/-- Both checks. -/
def Form.wellFormed (f : Form) : Bool := f.modeAllowed && f.bytesFit

/-- The form of an instruction. -/
def Instr.form (i : Instr) : Form := { tag := i.tag, mode := i.mode, bytes := i.operandBytes }

/-- An instruction is well-formed when its form is. -/
def Instr.wellFormed (i : Instr) : Bool := i.form.wellFormed

end Sys2Proof
end

