-- ==== Sys2Proof/Laws/Decode.lean ====
section
/-! SUPPORT. Sys2Proof/Laws/Decode.lean: the two forms of the opcode table agree, and what a fetch answers. -/

namespace Sys2Proof

/-- What a cell of the opcode map says in the form of `t6502`; its operand bytes do not matter. -/
def Cell.entry : Cell → Option (Tag × Mode)
  | .undefined => none
  | .f1 i => some (i.tag, i.mode)
  | .f2 make => some ((make 0).tag, (make 0).mode)
  | .f3 make => some ((make 0 0).tag, (make 0 0).mode)

/-- The opcode map and `t6502`, written apart, agree on all 256 bytes (30_encoding.md R67). -/
theorem opcodeCell_entry_eq_t6502 : ∀ op : Byte, (opcodeCell op).entry = t6502 op := by decide +kernel

/-- T6502 has exactly 151 entries (R67). -/
theorem t6502_has_151_entries :
    ((List.range 256).filter fun n => (t6502 (BitVec.ofNat 8 n)).isSome).length = 151 := by decide +kernel

/-- The table gives an instruction's opcode byte the number of operand bytes its mode has (R48). -/
theorem operandCount_opcode (i : Instr) : (opcodeCell i.opcode).operandCount = some (extraBytes i.mode) := by
  cases i <;> simp only [Instr.opcode, Instr.mode, extraBytes] <;> decide

/-- The instruction carries exactly that many (R48). -/
theorem operandBytes_length (i : Instr) : i.operandBytes.length = extraBytes i.mode := by cases i <;> rfl

/-- A list of the length `n`, as its `n` entries. -/
theorem memReadSlice_length (m : Machine.Memory) : ∀ (n : Nat) (a : Word), (Machine.memReadSlice m a n).length = n
  | 0, _ => rfl
  | n + 1, a => congrArg Nat.succ (memReadSlice_length m n (a + 1))

namespace Machine

/-- What a fetch answers, by the cell of the opcode byte (40_cycle.md R73, R74). -/
theorem fetchDecode_eq (s : State) : fetchDecode s =
    match opcodeCell (memRead s.mem s.pc) with
    | .undefined => none
    | .f1 i => some i
    | .f2 make => some (make (memRead s.mem (s.pc + 1)))
    | .f3 make => some (make (memRead s.mem (s.pc + 1)) (memRead s.mem (s.pc + 1 + 1))) := by
  simp only [fetchDecode, decode]
  generalize opcodeCell (memRead s.mem s.pc) = cell
  cases cell <;> rfl

/-- A fetch answers nothing exactly where the byte at PC has no entry in the opcode table. -/
theorem fetchDecode_none_iff (s : State) : fetchDecode s = none ↔ t6502 (memRead s.mem s.pc) = none := by
  rw [fetchDecode_eq, ← opcodeCell_entry_eq_t6502]
  cases opcodeCell (memRead s.mem s.pc) <;> simp [Cell.entry]

end Machine

end Sys2Proof
end

