-- ==== Sys2Proof/Laws/State.lean ====
section
/-! SUPPORT. Sys2Proof/Laws/State.lean: one lemma per field per update of the Machine, so that no later proof unfolds
a record update. -/

namespace Sys2Proof.Machine

section advance
variable (n : Nat) (s : State)

@[simp] theorem advancePc_a : (advancePc n s).a = s.a := rfl
@[simp] theorem advancePc_x : (advancePc n s).x = s.x := rfl
@[simp] theorem advancePc_y : (advancePc n s).y = s.y := rfl
@[simp] theorem advancePc_pc : (advancePc n s).pc = s.pc + BitVec.ofNat 16 n := rfl
@[simp] theorem advancePc_p : (advancePc n s).p = s.p := rfl
@[simp] theorem advancePc_mem : (advancePc n s).mem = s.mem := rfl
@[simp] theorem advancePc_flag (bit : StatusBit) : (advancePc n s).flag bit = s.flag bit := rfl

end advance

section setFlags
variable (mask new : Byte) (s : State)

@[simp] theorem setFlags_a : (setFlags mask new s).a = s.a := rfl
@[simp] theorem setFlags_x : (setFlags mask new s).x = s.x := rfl
@[simp] theorem setFlags_y : (setFlags mask new s).y = s.y := rfl
@[simp] theorem setFlags_pc : (setFlags mask new s).pc = s.pc := rfl
@[simp] theorem setFlags_p : (setFlags mask new s).p = maskedReplace mask new s.p := rfl
@[simp] theorem setFlags_mem : (setFlags mask new s).mem = s.mem := rfl

end setFlags

section writeReg
variable (r : Reg) (v : Byte) (s : State)

@[simp] theorem writeReg_a_a : (writeReg .a v s).a = v := rfl
@[simp] theorem writeReg_a_x : (writeReg .a v s).x = s.x := rfl
@[simp] theorem writeReg_a_y : (writeReg .a v s).y = s.y := rfl
@[simp] theorem writeReg_x_a : (writeReg .x v s).a = s.a := rfl
@[simp] theorem writeReg_x_x : (writeReg .x v s).x = v := rfl
@[simp] theorem writeReg_x_y : (writeReg .x v s).y = s.y := rfl
@[simp] theorem writeReg_y_a : (writeReg .y v s).a = s.a := rfl
@[simp] theorem writeReg_y_x : (writeReg .y v s).x = s.x := rfl
@[simp] theorem writeReg_y_y : (writeReg .y v s).y = v := rfl
@[simp] theorem writeReg_pc : (writeReg r v s).pc = s.pc := by cases r <;> rfl
@[simp] theorem writeReg_p : (writeReg r v s).p = s.p := by cases r <;> rfl
@[simp] theorem writeReg_mem : (writeReg r v s).mem = s.mem := by cases r <;> rfl
@[simp] theorem writeReg_flag (bit : StatusBit) : (writeReg r v s).flag bit = s.flag bit := by
  cases r <;> rfl

/-- A register reads what was last written to it, and a write to one register leaves the others. -/
theorem readReg_writeReg (r' : Reg) : readReg r' (writeReg r v s) = if r' = r then v else readReg r' s := by
  cases r <;> cases r' <;> rfl

end writeReg

section memWrite
variable (a : Word) (v : Byte) (s : State)

@[simp] theorem memWrite_a : (memWrite a v s).a = s.a := rfl
@[simp] theorem memWrite_x : (memWrite a v s).x = s.x := rfl
@[simp] theorem memWrite_y : (memWrite a v s).y = s.y := rfl
@[simp] theorem memWrite_pc : (memWrite a v s).pc = s.pc := rfl
@[simp] theorem memWrite_p : (memWrite a v s).p = s.p := rfl
@[simp] theorem memWrite_mem : (memWrite a v s).mem = Memory.store s.mem a.toNat v := rfl

end memWrite

section loadWithFlags
variable (r : Reg) (v : Byte) (s : State)

@[simp] theorem loadWithFlags_readReg (r' : Reg) :
    readReg r' (loadWithFlags r v s) = if r' = r then v else readReg r' s := by
  cases r <;> cases r' <;> rfl
@[simp] theorem loadWithFlags_a : (loadWithFlags r v s).a = if r = .a then v else s.a := by cases r <;> rfl
@[simp] theorem loadWithFlags_x : (loadWithFlags r v s).x = if r = .x then v else s.x := by cases r <;> rfl
@[simp] theorem loadWithFlags_y : (loadWithFlags r v s).y = if r = .y then v else s.y := by cases r <;> rfl
@[simp] theorem loadWithFlags_pc : (loadWithFlags r v s).pc = s.pc := by cases r <;> rfl
@[simp] theorem loadWithFlags_mem : (loadWithFlags r v s).mem = s.mem := by cases r <;> rfl
@[simp] theorem loadWithFlags_p : (loadWithFlags r v s).p =
    maskedReplace (StatusBit.z.mask ||| StatusBit.n.mask)
      (StatusBit.z.value (isZero v) ||| StatusBit.n.value (isNegative v)) s.p := by cases r <;> rfl

end loadWithFlags

section addWithCarry
variable (rule : FlagRule) (v : Byte) (s : State)

@[simp] theorem addWithCarryUnder_a :
    (addWithCarryUnder rule v s).a = s.a + v + carryByte (s.flag .c) := rfl
@[simp] theorem addWithCarryUnder_x : (addWithCarryUnder rule v s).x = s.x := rfl
@[simp] theorem addWithCarryUnder_y : (addWithCarryUnder rule v s).y = s.y := rfl
@[simp] theorem addWithCarryUnder_pc : (addWithCarryUnder rule v s).pc = s.pc := rfl
@[simp] theorem addWithCarryUnder_mem : (addWithCarryUnder rule v s).mem = s.mem := rfl

end addWithCarry

end Sys2Proof.Machine
end

