-- ==== Sys2Proof/Laws/Exec.lean ====
section
/-! SUPPORT. Sys2Proof/Laws/Exec.lean: what the shared operations and `exec` can do, said once; later proofs cite these
lemmas instead of unfolding. -/

namespace Sys2Proof.Machine

/-- The resolver does not read PC, so it answers the same before and after the advance (30_encoding.md R51). -/
theorem resolve_advancePc (mode : Mode) (n : Nat) (s : State) (bs : List Byte) :
    resolve mode (advancePc n s) bs = resolve mode s bs := by cases mode <;> rfl

/-- Everything an instruction with a value can do: `f` on some value, or nothing. -/
theorem withValue_cases (tag : Tag) (f : Byte → State → State) (operand : Operand) (s : State) :
    withValue tag f operand s = s ∨ ∃ v, withValue tag f operand s = f v s := by
  cases operand
  · exact .inr ⟨_, rfl⟩
  · exact .inr ⟨_, rfl⟩
  · exact .inl rfl

/-- Everything the dispatcher can do to a state: nothing, a load of the register the tag selects with flags, or an
addition with carry. -/
theorem executeInstruction_cases (cfg : Config State) (tag : Tag) (operand : Operand) (s : State) :
    executeInstruction cfg tag operand s = s ∨
    (∃ r v, (tag, r) ∈ [(Tag.lda, Reg.a), (.ldx, .x), (.ldy, .y), (.dex, .x)] ∧
      executeInstruction cfg tag operand s = loadWithFlags r v s) ∨
    (∃ v, tag = .adc ∧ executeInstruction cfg tag operand s = addWithCarryUnder cfg.flagRule v s) := by
  unfold executeInstruction
  split
  case h_1 =>
    rcases withValue_cases .adc (addWithCarryUnder cfg.flagRule) operand s with h | ⟨v, h⟩
    · exact .inl h
    · exact .inr (.inr ⟨v, rfl, h⟩)
  case h_2 =>
    rcases withValue_cases .lda (loadWithFlags .a) operand s with h | ⟨v, h⟩
    · exact .inl h
    · exact .inr (.inl ⟨.a, v, by simp, h⟩)
  case h_3 =>
    rcases withValue_cases .ldx (loadWithFlags .x) operand s with h | ⟨v, h⟩
    · exact .inl h
    · exact .inr (.inl ⟨.x, v, by simp, h⟩)
  case h_4 =>
    rcases withValue_cases .ldy (loadWithFlags .y) operand s with h | ⟨v, h⟩
    · exact .inl h
    · exact .inr (.inl ⟨.y, v, by simp, h⟩)
  case h_5 =>
    cases operand
    · exact .inl rfl
    · exact .inl rfl
    · exact .inr (.inl ⟨.x, s.x - 0x01, by simp, rfl⟩)
  case h_6 => exact .inl rfl
  case h_7 => exact .inl rfl

/-- Everything `exec` can do: it answers a next state, which the dispatcher makes from the operand resolved before
the advance and from the state after it. -/
theorem exec_eq (i : Instr) (s : State) : exec i s =
    .next (executeInstruction defaultConfig i.tag (resolve i.mode s i.operandBytes) (advancePc i.length s)) := by
  cases i <;> rfl

/-- No primitive of the dispatcher writes memory or PC (20_memory.md R37, 41_alu_primitives.md R93). -/
theorem executeInstruction_mem (cfg : Config State) (tag : Tag) (operand : Operand) (s : State) :
    (executeInstruction cfg tag operand s).mem = s.mem := by
  rcases executeInstruction_cases cfg tag operand s with h | ⟨r, v, -, h⟩ | ⟨v, -, h⟩ <;> simp [h]

theorem executeInstruction_pc (cfg : Config State) (tag : Tag) (operand : Operand) (s : State) :
    (executeInstruction cfg tag operand s).pc = s.pc := by
  rcases executeInstruction_cases cfg tag operand s with h | ⟨r, v, -, h⟩ | ⟨v, -, h⟩ <;> simp [h]

/-- A read by the host, the dump among them, leaves the Machine as it is (70_reset_and_hazards.md R167). -/
@[simp] theorem hostAct_read (what : HostRead) (s : State) : hostAct (.read what) s = s := rfl

/-- The dump shows the accumulator (10_state.md R19, R34). -/
@[simp] theorem dump_accumulator (s : State) : (dump s).accumulator = s.a := rfl

end Sys2Proof.Machine
end

