-- ==== Sys2Proof/Laws/Flags.lean ====
section
/-! SUPPORT. Sys2Proof/Laws/Flags.lean: which bit of P each update writes, and with what. -/

namespace Sys2Proof.Machine

/-- A masked replace, bit by bit (10_state.md R28). -/
theorem maskedReplace_getLsbD (mask new p : Byte) (k : Nat) :
    (maskedReplace mask new p).getLsbD k = if mask.getLsbD k then new.getLsbD k else p.getLsbD k := by
  simp only [maskedReplace, BitVec.getLsbD_or, BitVec.getLsbD_and, BitVec.getLsbD_not]
  by_cases hk : k < 8
  · cases mask.getLsbD k <;> simp [hk]
  · have hp := BitVec.getLsbD_of_ge p k (by omega)
    have hn := BitVec.getLsbD_of_ge new k (by omega)
    simp [hp, hn]

theorem StatusBit.mask_getLsbD (bit other : StatusBit) : bit.mask.getLsbD other.position = (bit == other) := by
  cases bit <;> cases other <;> decide

theorem StatusBit.value_getLsbD (bit other : StatusBit) (on : Bool) :
    (bit.value on).getLsbD other.position = (bit == other && on) := by
  cases on <;> cases bit <;> cases other <;> decide

/-- Load-with-flags writes Z and N and leaves every other bit (41_alu_primitives.md R84). -/
theorem loadWithFlags_flag (r : Reg) (v : Byte) (s : State) (bit : StatusBit) :
    (loadWithFlags r v s).flag bit =
      match bit with
      | .z => isZero v
      | .n => isNegative v
      | _ => s.flag bit := by
  simp only [State.flag, loadWithFlags_p, maskedReplace_getLsbD, BitVec.getLsbD_or, StatusBit.mask_getLsbD,
    StatusBit.value_getLsbD]
  cases bit <;> simp

/-- Add-with-carry writes C, V, Z and N and leaves every other bit (41_alu_primitives.md R85). -/
theorem addWithCarryUnder_flag (rule : FlagRule) (v : Byte) (s : State) (bit : StatusBit) :
    (addWithCarryUnder rule v s).flag bit =
      match bit with
      | .c => carryOut rule s.a v (s.flag .c) (s.a + v + carryByte (s.flag .c))
      | .v => overflowOut rule s.a v (s.a + v + carryByte (s.flag .c))
      | .z => isZero (s.a + v + carryByte (s.flag .c))
      | .n => isNegative (s.a + v + carryByte (s.flag .c))
      | _ => s.flag bit := by
  simp only [addWithCarryUnder, loadWithFlags_flag]
  simp only [State.flag, setFlags_p, maskedReplace_getLsbD, BitVec.getLsbD_or, StatusBit.mask_getLsbD,
    StatusBit.value_getLsbD]
  cases bit <;> simp

/-- Two status bytes with the same bits are the same. -/
theorem status_ext {p q : Byte} (h : ∀ bit : StatusBit, p.getLsbD bit.position = q.getLsbD bit.position) :
    p = q := by
  apply BitVec.eq_of_getLsbD_eq
  intro k hk
  have hc := h .c; have hz := h .z; have hi := h .i; have hd := h .d
  have hb := h .b; have hu := h .unnamed; have hv := h .v; have hn := h .n
  simp only [StatusBit.position] at hc hz hi hd hb hu hv hn
  interval_cases k <;> assumption

end Sys2Proof.Machine
end

