-- ==== Sys2Proof/Laws/Memory.lean ====
section
/-! SUPPORT. Sys2Proof/Laws/Memory.lean: what each memory operation does, and that every one keeps the canonical form. -/

namespace Sys2Proof.Machine

theorem Memory.wfFrom_cons_iff {low a : Nat} {b : Byte} {rest : Memory} :
    Memory.wfFrom low ((a, b) :: rest) = true ↔
      low ≤ a ∧ a < 65536 ∧ b ≠ unwrittenByte ∧ Memory.wfFrom (a + 1) rest = true := by
  simp [Memory.wfFrom, and_assoc]

/-- A lower bound may be lowered. -/
theorem Memory.wfFrom_lower {low low' : Nat} (h : low' ≤ low) :
    ∀ {m : Memory}, Memory.wfFrom low m = true → Memory.wfFrom low' m = true
  | [], _ => rfl
  | (a, b) :: rest, hm => by
    obtain ⟨h1, h2⟩ := Memory.wfFrom_cons_iff.mp hm
    exact Memory.wfFrom_cons_iff.mpr ⟨by omega, h2⟩

/-- Below its lower bound a canonical memory lists nothing. -/
theorem Memory.lookup_below {k : Nat} : ∀ {low : Nat} {m : Memory}, Memory.wfFrom low m = true → k < low →
    Memory.lookup m k = unwrittenByte
  | _, [], _, _ => rfl
  | _, (a, b) :: rest, hm, hk => by
    obtain ⟨h1, _, _, h4⟩ := Memory.wfFrom_cons_iff.mp hm
    have hne : k ≠ a := by omega
    simp only [Memory.lookup, if_neg hne]
    exact Memory.lookup_below h4 (by omega)

theorem Memory.cons_wf {low k : Nat} {v : Byte} {m : Memory} (hlow : low ≤ k) (hk : k < 65536)
    (hm : Memory.wfFrom (k + 1) m = true) : Memory.wfFrom low (Memory.cons k v m) = true := by
  unfold Memory.cons
  split
  · exact Memory.wfFrom_lower (by omega) hm
  · exact Memory.wfFrom_cons_iff.mpr ⟨hlow, hk, ‹_›, hm⟩

theorem Memory.store_wfFrom {k : Nat} {v : Byte} (hk : k < 65536) : ∀ {low : Nat} {m : Memory}, low ≤ k →
    Memory.wfFrom low m = true → Memory.wfFrom low (Memory.store m k v) = true
  | _, [], hlow, _ => Memory.cons_wf hlow hk rfl
  | low, (a, b) :: rest, hlow, hm => by
    obtain ⟨h1, h2, h3, h4⟩ := Memory.wfFrom_cons_iff.mp hm
    unfold Memory.store
    split
    · exact Memory.cons_wf hlow hk (Memory.wfFrom_cons_iff.mpr ⟨by omega, h2, h3, h4⟩)
    · split
      · subst a
        exact Memory.cons_wf hlow hk h4
      · exact Memory.wfFrom_cons_iff.mpr ⟨h1, h2, h3, Memory.store_wfFrom hk (by omega) h4⟩

/-- A write keeps the canonical form. -/
theorem Memory.store_wf {m : Memory} {k : Nat} {v : Byte} (hk : k < 65536) (hm : Memory.wf m = true) :
    Memory.wf (Memory.store m k v) = true := Memory.store_wfFrom hk (Nat.zero_le k) hm

theorem Memory.lookup_cons_same {k : Nat} {v : Byte} {m : Memory} (hm : Memory.wfFrom (k + 1) m = true) :
    Memory.lookup (Memory.cons k v m) k = v := by
  unfold Memory.cons
  split
  · rw [Memory.lookup_below hm (by omega)]
    exact (‹v = unwrittenByte›).symm
  · simp [Memory.lookup]

theorem Memory.lookup_cons_other {k k' : Nat} {v : Byte} {m : Memory} (h : k' ≠ k) :
    Memory.lookup (Memory.cons k v m) k' = Memory.lookup m k' := by
  unfold Memory.cons
  split
  · rfl
  · simp [Memory.lookup, h]

/-- In canonical memory a store is read back at its own key. -/
theorem Memory.lookup_store_same {k : Nat} {v : Byte} : ∀ {low : Nat} {m : Memory}, Memory.wfFrom low m = true →
    Memory.lookup (Memory.store m k v) k = v
  | _, [], _ => Memory.lookup_cons_same rfl
  | _, (a, b) :: rest, hm => by
    obtain ⟨_, h2, h3, h4⟩ := Memory.wfFrom_cons_iff.mp hm
    unfold Memory.store
    split
    · exact Memory.lookup_cons_same (Memory.wfFrom_cons_iff.mpr ⟨by omega, h2, h3, h4⟩)
    · split
      · subst a
        exact Memory.lookup_cons_same h4
      · rename_i hne
        simp only [Memory.lookup, if_neg hne]
        exact Memory.lookup_store_same h4

/-- A store leaves every other key alone, in any memory. -/
theorem Memory.lookup_store_other {k k' : Nat} {v : Byte} (h : k' ≠ k) : ∀ {m : Memory},
    Memory.lookup (Memory.store m k v) k' = Memory.lookup m k'
  | [] => Memory.lookup_cons_other h
  | (a, b) :: rest => by
    unfold Memory.store
    split
    · exact Memory.lookup_cons_other h
    · split
      · subst a
        rw [Memory.lookup_cons_other h]
        simp [Memory.lookup, h]
      · simp only [Memory.lookup]
        rw [Memory.lookup_store_other h]

/-- The host's write keeps the canonical form. -/
theorem memWrite_wf {a : Word} {v : Byte} {s : State} (h : Memory.wf s.mem = true) :
    Memory.wf (memWrite a v s).mem = true := Memory.store_wf a.isLt h

/-- So do the host's writes of consecutive bytes. -/
theorem memWriteSlice_wf : ∀ {bs : List Byte} {a : Word} {s : State}, Memory.wf s.mem = true →
    Memory.wf (memWriteSlice a bs s).mem = true
  | [], _, _, h => h
  | b :: bs, a, s, h => memWriteSlice_wf (bs := bs) (s := memWrite a b s) (memWrite_wf h)

/-- They change memory only. -/
theorem memWriteSlice_frame : ∀ (bs : List Byte) (a : Word) (s : State),
    memWriteSlice a bs s = { s with mem := (memWriteSlice a bs s).mem }
  | [], _, _ => rfl
  | b :: bs, a, s => by
    simp only [memWriteSlice]
    conv_lhs => rw [memWriteSlice_frame bs (a + 1) (memWrite a b s)]
    rfl

theorem reset_wf : Memory.wf State.reset.mem = true := rfl

end Sys2Proof.Machine
end

