-- ==== Sys2Proof/Laws/PerInstr.lean ====
section
/-! SUPPORT. Sys2Proof/Laws/PerInstr.lean: the family TableEntry, one lemma per constructor of Instr. -/

namespace Sys2Proof.Laws.TableEntry

/-- An instruction's opcode byte stands in T6502 with its tag and mode (R67), its form passes the two checks of
WellFormed.lean, and it is encoded in `1 + EXTRA(mode)` bytes (R48). -/
def Statement (i : Instr) : Prop :=
  t6502 i.opcode = some (i.tag, i.mode) ∧ i.wellFormed = true ∧ (encode i).length = i.length

theorem adcIzx (ptr : Byte) : Statement (.adcIzx ptr) :=
  ⟨(by decide : t6502 0x61 = some (.adc, .indexedIndirectX)), rfl, rfl⟩
theorem adcZp (zp : Byte) : Statement (.adcZp zp) :=
  ⟨(by decide : t6502 0x65 = some (.adc, .zeroPage)), rfl, rfl⟩
theorem adcImm (imm : Byte) : Statement (.adcImm imm) :=
  ⟨(by decide : t6502 0x69 = some (.adc, .immediate)), rfl, rfl⟩
theorem adcAbs (lo : Byte) (hi : Byte) : Statement (.adcAbs lo hi) :=
  ⟨(by decide : t6502 0x6D = some (.adc, .absolute)), rfl, rfl⟩
theorem adcIzy (ptr : Byte) : Statement (.adcIzy ptr) :=
  ⟨(by decide : t6502 0x71 = some (.adc, .indirectIndexedY)), rfl, rfl⟩
theorem adcZpx (zp : Byte) : Statement (.adcZpx zp) :=
  ⟨(by decide : t6502 0x75 = some (.adc, .zeroPageX)), rfl, rfl⟩
theorem adcAbsy (lo : Byte) (hi : Byte) : Statement (.adcAbsy lo hi) :=
  ⟨(by decide : t6502 0x79 = some (.adc, .absoluteY)), rfl, rfl⟩
theorem adcAbsx (lo : Byte) (hi : Byte) : Statement (.adcAbsx lo hi) :=
  ⟨(by decide : t6502 0x7D = some (.adc, .absoluteX)), rfl, rfl⟩
theorem ldaIzx (ptr : Byte) : Statement (.ldaIzx ptr) :=
  ⟨(by decide : t6502 0xA1 = some (.lda, .indexedIndirectX)), rfl, rfl⟩
theorem ldaZp (zp : Byte) : Statement (.ldaZp zp) :=
  ⟨(by decide : t6502 0xA5 = some (.lda, .zeroPage)), rfl, rfl⟩
theorem ldaImm (imm : Byte) : Statement (.ldaImm imm) :=
  ⟨(by decide : t6502 0xA9 = some (.lda, .immediate)), rfl, rfl⟩
theorem ldaAbs (lo : Byte) (hi : Byte) : Statement (.ldaAbs lo hi) :=
  ⟨(by decide : t6502 0xAD = some (.lda, .absolute)), rfl, rfl⟩
theorem ldaIzy (ptr : Byte) : Statement (.ldaIzy ptr) :=
  ⟨(by decide : t6502 0xB1 = some (.lda, .indirectIndexedY)), rfl, rfl⟩
theorem ldaZpx (zp : Byte) : Statement (.ldaZpx zp) :=
  ⟨(by decide : t6502 0xB5 = some (.lda, .zeroPageX)), rfl, rfl⟩
theorem ldaAbsy (lo : Byte) (hi : Byte) : Statement (.ldaAbsy lo hi) :=
  ⟨(by decide : t6502 0xB9 = some (.lda, .absoluteY)), rfl, rfl⟩
theorem ldaAbsx (lo : Byte) (hi : Byte) : Statement (.ldaAbsx lo hi) :=
  ⟨(by decide : t6502 0xBD = some (.lda, .absoluteX)), rfl, rfl⟩
theorem ldxImm (imm : Byte) : Statement (.ldxImm imm) :=
  ⟨(by decide : t6502 0xA2 = some (.ldx, .immediate)), rfl, rfl⟩
theorem ldxZp (zp : Byte) : Statement (.ldxZp zp) :=
  ⟨(by decide : t6502 0xA6 = some (.ldx, .zeroPage)), rfl, rfl⟩
theorem ldxAbs (lo : Byte) (hi : Byte) : Statement (.ldxAbs lo hi) :=
  ⟨(by decide : t6502 0xAE = some (.ldx, .absolute)), rfl, rfl⟩
theorem ldxZpy (zp : Byte) : Statement (.ldxZpy zp) :=
  ⟨(by decide : t6502 0xB6 = some (.ldx, .zeroPageY)), rfl, rfl⟩
theorem ldxAbsy (lo : Byte) (hi : Byte) : Statement (.ldxAbsy lo hi) :=
  ⟨(by decide : t6502 0xBE = some (.ldx, .absoluteY)), rfl, rfl⟩
theorem ldyImm (imm : Byte) : Statement (.ldyImm imm) :=
  ⟨(by decide : t6502 0xA0 = some (.ldy, .immediate)), rfl, rfl⟩
theorem ldyZp (zp : Byte) : Statement (.ldyZp zp) :=
  ⟨(by decide : t6502 0xA4 = some (.ldy, .zeroPage)), rfl, rfl⟩
theorem ldyAbs (lo : Byte) (hi : Byte) : Statement (.ldyAbs lo hi) :=
  ⟨(by decide : t6502 0xAC = some (.ldy, .absolute)), rfl, rfl⟩
theorem ldyZpx (zp : Byte) : Statement (.ldyZpx zp) :=
  ⟨(by decide : t6502 0xB4 = some (.ldy, .zeroPageX)), rfl, rfl⟩
theorem ldyAbsx (lo : Byte) (hi : Byte) : Statement (.ldyAbsx lo hi) :=
  ⟨(by decide : t6502 0xBC = some (.ldy, .absoluteX)), rfl, rfl⟩
theorem dexImp : Statement (.dexImp) :=
  ⟨(by decide : t6502 0xCA = some (.dex, .implied)), rfl, rfl⟩
theorem nopImp : Statement (.nopImp) :=
  ⟨(by decide : t6502 0xEA = some (.nop, .implied)), rfl, rfl⟩
theorem andIzx (ptr : Byte) : Statement (.andIzx ptr) :=
  ⟨(by decide : t6502 0x21 = some (.and, .indexedIndirectX)), rfl, rfl⟩
theorem andZp (zp : Byte) : Statement (.andZp zp) :=
  ⟨(by decide : t6502 0x25 = some (.and, .zeroPage)), rfl, rfl⟩
theorem andImm (imm : Byte) : Statement (.andImm imm) :=
  ⟨(by decide : t6502 0x29 = some (.and, .immediate)), rfl, rfl⟩
theorem andAbs (lo : Byte) (hi : Byte) : Statement (.andAbs lo hi) :=
  ⟨(by decide : t6502 0x2D = some (.and, .absolute)), rfl, rfl⟩
theorem andIzy (ptr : Byte) : Statement (.andIzy ptr) :=
  ⟨(by decide : t6502 0x31 = some (.and, .indirectIndexedY)), rfl, rfl⟩
theorem andZpx (zp : Byte) : Statement (.andZpx zp) :=
  ⟨(by decide : t6502 0x35 = some (.and, .zeroPageX)), rfl, rfl⟩
theorem andAbsy (lo : Byte) (hi : Byte) : Statement (.andAbsy lo hi) :=
  ⟨(by decide : t6502 0x39 = some (.and, .absoluteY)), rfl, rfl⟩
theorem andAbsx (lo : Byte) (hi : Byte) : Statement (.andAbsx lo hi) :=
  ⟨(by decide : t6502 0x3D = some (.and, .absoluteX)), rfl, rfl⟩
theorem aslZp (zp : Byte) : Statement (.aslZp zp) :=
  ⟨(by decide : t6502 0x06 = some (.asl, .zeroPage)), rfl, rfl⟩
theorem aslAcc : Statement (.aslAcc) :=
  ⟨(by decide : t6502 0x0A = some (.asl, .accumulator)), rfl, rfl⟩
theorem aslAbs (lo : Byte) (hi : Byte) : Statement (.aslAbs lo hi) :=
  ⟨(by decide : t6502 0x0E = some (.asl, .absolute)), rfl, rfl⟩
theorem aslZpx (zp : Byte) : Statement (.aslZpx zp) :=
  ⟨(by decide : t6502 0x16 = some (.asl, .zeroPageX)), rfl, rfl⟩
theorem aslAbsx (lo : Byte) (hi : Byte) : Statement (.aslAbsx lo hi) :=
  ⟨(by decide : t6502 0x1E = some (.asl, .absoluteX)), rfl, rfl⟩
theorem bccRel (offset : Byte) : Statement (.bccRel offset) :=
  ⟨(by decide : t6502 0x90 = some (.bcc, .relative)), rfl, rfl⟩
theorem bcsRel (offset : Byte) : Statement (.bcsRel offset) :=
  ⟨(by decide : t6502 0xB0 = some (.bcs, .relative)), rfl, rfl⟩
theorem beqRel (offset : Byte) : Statement (.beqRel offset) :=
  ⟨(by decide : t6502 0xF0 = some (.beq, .relative)), rfl, rfl⟩
theorem bitZp (zp : Byte) : Statement (.bitZp zp) :=
  ⟨(by decide : t6502 0x24 = some (.bit, .zeroPage)), rfl, rfl⟩
theorem bitAbs (lo : Byte) (hi : Byte) : Statement (.bitAbs lo hi) :=
  ⟨(by decide : t6502 0x2C = some (.bit, .absolute)), rfl, rfl⟩
theorem bmiRel (offset : Byte) : Statement (.bmiRel offset) :=
  ⟨(by decide : t6502 0x30 = some (.bmi, .relative)), rfl, rfl⟩
theorem bneRel (offset : Byte) : Statement (.bneRel offset) :=
  ⟨(by decide : t6502 0xD0 = some (.bne, .relative)), rfl, rfl⟩
theorem bplRel (offset : Byte) : Statement (.bplRel offset) :=
  ⟨(by decide : t6502 0x10 = some (.bpl, .relative)), rfl, rfl⟩
theorem brkImp : Statement (.brkImp) :=
  ⟨(by decide : t6502 0x00 = some (.brk, .implied)), rfl, rfl⟩
theorem bvcRel (offset : Byte) : Statement (.bvcRel offset) :=
  ⟨(by decide : t6502 0x50 = some (.bvc, .relative)), rfl, rfl⟩
theorem bvsRel (offset : Byte) : Statement (.bvsRel offset) :=
  ⟨(by decide : t6502 0x70 = some (.bvs, .relative)), rfl, rfl⟩
theorem clcImp : Statement (.clcImp) :=
  ⟨(by decide : t6502 0x18 = some (.clc, .implied)), rfl, rfl⟩
theorem cldImp : Statement (.cldImp) :=
  ⟨(by decide : t6502 0xD8 = some (.cld, .implied)), rfl, rfl⟩
theorem cliImp : Statement (.cliImp) :=
  ⟨(by decide : t6502 0x58 = some (.cli, .implied)), rfl, rfl⟩
theorem clvImp : Statement (.clvImp) :=
  ⟨(by decide : t6502 0xB8 = some (.clv, .implied)), rfl, rfl⟩
theorem cmpIzx (ptr : Byte) : Statement (.cmpIzx ptr) :=
  ⟨(by decide : t6502 0xC1 = some (.cmp, .indexedIndirectX)), rfl, rfl⟩
theorem cmpZp (zp : Byte) : Statement (.cmpZp zp) :=
  ⟨(by decide : t6502 0xC5 = some (.cmp, .zeroPage)), rfl, rfl⟩
theorem cmpImm (imm : Byte) : Statement (.cmpImm imm) :=
  ⟨(by decide : t6502 0xC9 = some (.cmp, .immediate)), rfl, rfl⟩
theorem cmpAbs (lo : Byte) (hi : Byte) : Statement (.cmpAbs lo hi) :=
  ⟨(by decide : t6502 0xCD = some (.cmp, .absolute)), rfl, rfl⟩
theorem cmpIzy (ptr : Byte) : Statement (.cmpIzy ptr) :=
  ⟨(by decide : t6502 0xD1 = some (.cmp, .indirectIndexedY)), rfl, rfl⟩
theorem cmpZpx (zp : Byte) : Statement (.cmpZpx zp) :=
  ⟨(by decide : t6502 0xD5 = some (.cmp, .zeroPageX)), rfl, rfl⟩
theorem cmpAbsy (lo : Byte) (hi : Byte) : Statement (.cmpAbsy lo hi) :=
  ⟨(by decide : t6502 0xD9 = some (.cmp, .absoluteY)), rfl, rfl⟩
theorem cmpAbsx (lo : Byte) (hi : Byte) : Statement (.cmpAbsx lo hi) :=
  ⟨(by decide : t6502 0xDD = some (.cmp, .absoluteX)), rfl, rfl⟩
theorem cpxImm (imm : Byte) : Statement (.cpxImm imm) :=
  ⟨(by decide : t6502 0xE0 = some (.cpx, .immediate)), rfl, rfl⟩
theorem cpxZp (zp : Byte) : Statement (.cpxZp zp) :=
  ⟨(by decide : t6502 0xE4 = some (.cpx, .zeroPage)), rfl, rfl⟩
theorem cpxAbs (lo : Byte) (hi : Byte) : Statement (.cpxAbs lo hi) :=
  ⟨(by decide : t6502 0xEC = some (.cpx, .absolute)), rfl, rfl⟩
theorem cpyImm (imm : Byte) : Statement (.cpyImm imm) :=
  ⟨(by decide : t6502 0xC0 = some (.cpy, .immediate)), rfl, rfl⟩
theorem cpyZp (zp : Byte) : Statement (.cpyZp zp) :=
  ⟨(by decide : t6502 0xC4 = some (.cpy, .zeroPage)), rfl, rfl⟩
theorem cpyAbs (lo : Byte) (hi : Byte) : Statement (.cpyAbs lo hi) :=
  ⟨(by decide : t6502 0xCC = some (.cpy, .absolute)), rfl, rfl⟩
theorem decZp (zp : Byte) : Statement (.decZp zp) :=
  ⟨(by decide : t6502 0xC6 = some (.dec, .zeroPage)), rfl, rfl⟩
theorem decAbs (lo : Byte) (hi : Byte) : Statement (.decAbs lo hi) :=
  ⟨(by decide : t6502 0xCE = some (.dec, .absolute)), rfl, rfl⟩
theorem decZpx (zp : Byte) : Statement (.decZpx zp) :=
  ⟨(by decide : t6502 0xD6 = some (.dec, .zeroPageX)), rfl, rfl⟩
theorem decAbsx (lo : Byte) (hi : Byte) : Statement (.decAbsx lo hi) :=
  ⟨(by decide : t6502 0xDE = some (.dec, .absoluteX)), rfl, rfl⟩
theorem deyImp : Statement (.deyImp) :=
  ⟨(by decide : t6502 0x88 = some (.dey, .implied)), rfl, rfl⟩
theorem eorIzx (ptr : Byte) : Statement (.eorIzx ptr) :=
  ⟨(by decide : t6502 0x41 = some (.eor, .indexedIndirectX)), rfl, rfl⟩
theorem eorZp (zp : Byte) : Statement (.eorZp zp) :=
  ⟨(by decide : t6502 0x45 = some (.eor, .zeroPage)), rfl, rfl⟩
theorem eorImm (imm : Byte) : Statement (.eorImm imm) :=
  ⟨(by decide : t6502 0x49 = some (.eor, .immediate)), rfl, rfl⟩
theorem eorAbs (lo : Byte) (hi : Byte) : Statement (.eorAbs lo hi) :=
  ⟨(by decide : t6502 0x4D = some (.eor, .absolute)), rfl, rfl⟩
theorem eorIzy (ptr : Byte) : Statement (.eorIzy ptr) :=
  ⟨(by decide : t6502 0x51 = some (.eor, .indirectIndexedY)), rfl, rfl⟩
theorem eorZpx (zp : Byte) : Statement (.eorZpx zp) :=
  ⟨(by decide : t6502 0x55 = some (.eor, .zeroPageX)), rfl, rfl⟩
theorem eorAbsy (lo : Byte) (hi : Byte) : Statement (.eorAbsy lo hi) :=
  ⟨(by decide : t6502 0x59 = some (.eor, .absoluteY)), rfl, rfl⟩
theorem eorAbsx (lo : Byte) (hi : Byte) : Statement (.eorAbsx lo hi) :=
  ⟨(by decide : t6502 0x5D = some (.eor, .absoluteX)), rfl, rfl⟩
theorem incZp (zp : Byte) : Statement (.incZp zp) :=
  ⟨(by decide : t6502 0xE6 = some (.inc, .zeroPage)), rfl, rfl⟩
theorem incAbs (lo : Byte) (hi : Byte) : Statement (.incAbs lo hi) :=
  ⟨(by decide : t6502 0xEE = some (.inc, .absolute)), rfl, rfl⟩
theorem incZpx (zp : Byte) : Statement (.incZpx zp) :=
  ⟨(by decide : t6502 0xF6 = some (.inc, .zeroPageX)), rfl, rfl⟩
theorem incAbsx (lo : Byte) (hi : Byte) : Statement (.incAbsx lo hi) :=
  ⟨(by decide : t6502 0xFE = some (.inc, .absoluteX)), rfl, rfl⟩
theorem inxImp : Statement (.inxImp) :=
  ⟨(by decide : t6502 0xE8 = some (.inx, .implied)), rfl, rfl⟩
theorem inyImp : Statement (.inyImp) :=
  ⟨(by decide : t6502 0xC8 = some (.iny, .implied)), rfl, rfl⟩
theorem jmpAbs (lo : Byte) (hi : Byte) : Statement (.jmpAbs lo hi) :=
  ⟨(by decide : t6502 0x4C = some (.jmp, .absolute)), rfl, rfl⟩
theorem jmpInd (lo : Byte) (hi : Byte) : Statement (.jmpInd lo hi) :=
  ⟨(by decide : t6502 0x6C = some (.jmp, .indirect)), rfl, rfl⟩
theorem jsrAbs (lo : Byte) (hi : Byte) : Statement (.jsrAbs lo hi) :=
  ⟨(by decide : t6502 0x20 = some (.jsr, .absolute)), rfl, rfl⟩
theorem lsrZp (zp : Byte) : Statement (.lsrZp zp) :=
  ⟨(by decide : t6502 0x46 = some (.lsr, .zeroPage)), rfl, rfl⟩
theorem lsrAcc : Statement (.lsrAcc) :=
  ⟨(by decide : t6502 0x4A = some (.lsr, .accumulator)), rfl, rfl⟩
theorem lsrAbs (lo : Byte) (hi : Byte) : Statement (.lsrAbs lo hi) :=
  ⟨(by decide : t6502 0x4E = some (.lsr, .absolute)), rfl, rfl⟩
theorem lsrZpx (zp : Byte) : Statement (.lsrZpx zp) :=
  ⟨(by decide : t6502 0x56 = some (.lsr, .zeroPageX)), rfl, rfl⟩
theorem lsrAbsx (lo : Byte) (hi : Byte) : Statement (.lsrAbsx lo hi) :=
  ⟨(by decide : t6502 0x5E = some (.lsr, .absoluteX)), rfl, rfl⟩
theorem oraIzx (ptr : Byte) : Statement (.oraIzx ptr) :=
  ⟨(by decide : t6502 0x01 = some (.ora, .indexedIndirectX)), rfl, rfl⟩
theorem oraZp (zp : Byte) : Statement (.oraZp zp) :=
  ⟨(by decide : t6502 0x05 = some (.ora, .zeroPage)), rfl, rfl⟩
theorem oraImm (imm : Byte) : Statement (.oraImm imm) :=
  ⟨(by decide : t6502 0x09 = some (.ora, .immediate)), rfl, rfl⟩
theorem oraAbs (lo : Byte) (hi : Byte) : Statement (.oraAbs lo hi) :=
  ⟨(by decide : t6502 0x0D = some (.ora, .absolute)), rfl, rfl⟩
theorem oraIzy (ptr : Byte) : Statement (.oraIzy ptr) :=
  ⟨(by decide : t6502 0x11 = some (.ora, .indirectIndexedY)), rfl, rfl⟩
theorem oraZpx (zp : Byte) : Statement (.oraZpx zp) :=
  ⟨(by decide : t6502 0x15 = some (.ora, .zeroPageX)), rfl, rfl⟩
theorem oraAbsy (lo : Byte) (hi : Byte) : Statement (.oraAbsy lo hi) :=
  ⟨(by decide : t6502 0x19 = some (.ora, .absoluteY)), rfl, rfl⟩
theorem oraAbsx (lo : Byte) (hi : Byte) : Statement (.oraAbsx lo hi) :=
  ⟨(by decide : t6502 0x1D = some (.ora, .absoluteX)), rfl, rfl⟩
theorem phaImp : Statement (.phaImp) :=
  ⟨(by decide : t6502 0x48 = some (.pha, .implied)), rfl, rfl⟩
theorem phpImp : Statement (.phpImp) :=
  ⟨(by decide : t6502 0x08 = some (.php, .implied)), rfl, rfl⟩
theorem plaImp : Statement (.plaImp) :=
  ⟨(by decide : t6502 0x68 = some (.pla, .implied)), rfl, rfl⟩
theorem plpImp : Statement (.plpImp) :=
  ⟨(by decide : t6502 0x28 = some (.plp, .implied)), rfl, rfl⟩
theorem rolZp (zp : Byte) : Statement (.rolZp zp) :=
  ⟨(by decide : t6502 0x26 = some (.rol, .zeroPage)), rfl, rfl⟩
theorem rolAcc : Statement (.rolAcc) :=
  ⟨(by decide : t6502 0x2A = some (.rol, .accumulator)), rfl, rfl⟩
theorem rolAbs (lo : Byte) (hi : Byte) : Statement (.rolAbs lo hi) :=
  ⟨(by decide : t6502 0x2E = some (.rol, .absolute)), rfl, rfl⟩
theorem rolZpx (zp : Byte) : Statement (.rolZpx zp) :=
  ⟨(by decide : t6502 0x36 = some (.rol, .zeroPageX)), rfl, rfl⟩
theorem rolAbsx (lo : Byte) (hi : Byte) : Statement (.rolAbsx lo hi) :=
  ⟨(by decide : t6502 0x3E = some (.rol, .absoluteX)), rfl, rfl⟩
theorem rorZp (zp : Byte) : Statement (.rorZp zp) :=
  ⟨(by decide : t6502 0x66 = some (.ror, .zeroPage)), rfl, rfl⟩
theorem rorAcc : Statement (.rorAcc) :=
  ⟨(by decide : t6502 0x6A = some (.ror, .accumulator)), rfl, rfl⟩
theorem rorAbs (lo : Byte) (hi : Byte) : Statement (.rorAbs lo hi) :=
  ⟨(by decide : t6502 0x6E = some (.ror, .absolute)), rfl, rfl⟩
theorem rorZpx (zp : Byte) : Statement (.rorZpx zp) :=
  ⟨(by decide : t6502 0x76 = some (.ror, .zeroPageX)), rfl, rfl⟩
theorem rorAbsx (lo : Byte) (hi : Byte) : Statement (.rorAbsx lo hi) :=
  ⟨(by decide : t6502 0x7E = some (.ror, .absoluteX)), rfl, rfl⟩
theorem rtiImp : Statement (.rtiImp) :=
  ⟨(by decide : t6502 0x40 = some (.rti, .implied)), rfl, rfl⟩
theorem rtsImp : Statement (.rtsImp) :=
  ⟨(by decide : t6502 0x60 = some (.rts, .implied)), rfl, rfl⟩
theorem sbcIzx (ptr : Byte) : Statement (.sbcIzx ptr) :=
  ⟨(by decide : t6502 0xE1 = some (.sbc, .indexedIndirectX)), rfl, rfl⟩
theorem sbcZp (zp : Byte) : Statement (.sbcZp zp) :=
  ⟨(by decide : t6502 0xE5 = some (.sbc, .zeroPage)), rfl, rfl⟩
theorem sbcImm (imm : Byte) : Statement (.sbcImm imm) :=
  ⟨(by decide : t6502 0xE9 = some (.sbc, .immediate)), rfl, rfl⟩
theorem sbcAbs (lo : Byte) (hi : Byte) : Statement (.sbcAbs lo hi) :=
  ⟨(by decide : t6502 0xED = some (.sbc, .absolute)), rfl, rfl⟩
theorem sbcIzy (ptr : Byte) : Statement (.sbcIzy ptr) :=
  ⟨(by decide : t6502 0xF1 = some (.sbc, .indirectIndexedY)), rfl, rfl⟩
theorem sbcZpx (zp : Byte) : Statement (.sbcZpx zp) :=
  ⟨(by decide : t6502 0xF5 = some (.sbc, .zeroPageX)), rfl, rfl⟩
theorem sbcAbsy (lo : Byte) (hi : Byte) : Statement (.sbcAbsy lo hi) :=
  ⟨(by decide : t6502 0xF9 = some (.sbc, .absoluteY)), rfl, rfl⟩
theorem sbcAbsx (lo : Byte) (hi : Byte) : Statement (.sbcAbsx lo hi) :=
  ⟨(by decide : t6502 0xFD = some (.sbc, .absoluteX)), rfl, rfl⟩
theorem secImp : Statement (.secImp) :=
  ⟨(by decide : t6502 0x38 = some (.sec, .implied)), rfl, rfl⟩
theorem sedImp : Statement (.sedImp) :=
  ⟨(by decide : t6502 0xF8 = some (.sed, .implied)), rfl, rfl⟩
theorem seiImp : Statement (.seiImp) :=
  ⟨(by decide : t6502 0x78 = some (.sei, .implied)), rfl, rfl⟩
theorem staIzx (ptr : Byte) : Statement (.staIzx ptr) :=
  ⟨(by decide : t6502 0x81 = some (.sta, .indexedIndirectX)), rfl, rfl⟩
theorem staZp (zp : Byte) : Statement (.staZp zp) :=
  ⟨(by decide : t6502 0x85 = some (.sta, .zeroPage)), rfl, rfl⟩
theorem staAbs (lo : Byte) (hi : Byte) : Statement (.staAbs lo hi) :=
  ⟨(by decide : t6502 0x8D = some (.sta, .absolute)), rfl, rfl⟩
theorem staIzy (ptr : Byte) : Statement (.staIzy ptr) :=
  ⟨(by decide : t6502 0x91 = some (.sta, .indirectIndexedY)), rfl, rfl⟩
theorem staZpx (zp : Byte) : Statement (.staZpx zp) :=
  ⟨(by decide : t6502 0x95 = some (.sta, .zeroPageX)), rfl, rfl⟩
theorem staAbsy (lo : Byte) (hi : Byte) : Statement (.staAbsy lo hi) :=
  ⟨(by decide : t6502 0x99 = some (.sta, .absoluteY)), rfl, rfl⟩
theorem staAbsx (lo : Byte) (hi : Byte) : Statement (.staAbsx lo hi) :=
  ⟨(by decide : t6502 0x9D = some (.sta, .absoluteX)), rfl, rfl⟩
theorem stxZp (zp : Byte) : Statement (.stxZp zp) :=
  ⟨(by decide : t6502 0x86 = some (.stx, .zeroPage)), rfl, rfl⟩
theorem stxAbs (lo : Byte) (hi : Byte) : Statement (.stxAbs lo hi) :=
  ⟨(by decide : t6502 0x8E = some (.stx, .absolute)), rfl, rfl⟩
theorem stxZpy (zp : Byte) : Statement (.stxZpy zp) :=
  ⟨(by decide : t6502 0x96 = some (.stx, .zeroPageY)), rfl, rfl⟩
theorem styZp (zp : Byte) : Statement (.styZp zp) :=
  ⟨(by decide : t6502 0x84 = some (.sty, .zeroPage)), rfl, rfl⟩
theorem styAbs (lo : Byte) (hi : Byte) : Statement (.styAbs lo hi) :=
  ⟨(by decide : t6502 0x8C = some (.sty, .absolute)), rfl, rfl⟩
theorem styZpx (zp : Byte) : Statement (.styZpx zp) :=
  ⟨(by decide : t6502 0x94 = some (.sty, .zeroPageX)), rfl, rfl⟩
theorem taxImp : Statement (.taxImp) :=
  ⟨(by decide : t6502 0xAA = some (.tax, .implied)), rfl, rfl⟩
theorem tayImp : Statement (.tayImp) :=
  ⟨(by decide : t6502 0xA8 = some (.tay, .implied)), rfl, rfl⟩
theorem tsxImp : Statement (.tsxImp) :=
  ⟨(by decide : t6502 0xBA = some (.tsx, .implied)), rfl, rfl⟩
theorem txaImp : Statement (.txaImp) :=
  ⟨(by decide : t6502 0x8A = some (.txa, .implied)), rfl, rfl⟩
theorem txsImp : Statement (.txsImp) :=
  ⟨(by decide : t6502 0x9A = some (.txs, .implied)), rfl, rfl⟩
theorem tyaImp : Statement (.tyaImp) :=
  ⟨(by decide : t6502 0x98 = some (.tya, .implied)), rfl, rfl⟩

end Sys2Proof.Laws.TableEntry
end

