-- ==== Sys2Proof/Machine/Assembler.lean ====
section
/-! DEFINITION. Sys2Proof/Machine/Assembler.lean: the assembler spelling of an instruction (30_encoding.md R71 and the
syntax column of R49). It is notation: the encodings are authoritative, and no meaning reads it (log 17). -/

namespace Sys2Proof.Machine

/-- The upper-case three-letter mnemonic (R67, R71). -/
def mnemonic : Tag → String
  | .adc => "ADC" | .and => "AND" | .asl => "ASL" | .bcc => "BCC"
  | .bcs => "BCS" | .beq => "BEQ" | .bit => "BIT" | .bmi => "BMI"
  | .bne => "BNE" | .bpl => "BPL" | .brk => "BRK" | .bvc => "BVC"
  | .bvs => "BVS" | .clc => "CLC" | .cld => "CLD" | .cli => "CLI"
  | .clv => "CLV" | .cmp => "CMP" | .cpx => "CPX" | .cpy => "CPY"
  | .dec => "DEC" | .dex => "DEX" | .dey => "DEY" | .eor => "EOR"
  | .inc => "INC" | .inx => "INX" | .iny => "INY" | .jmp => "JMP"
  | .jsr => "JSR" | .lda => "LDA" | .ldx => "LDX" | .ldy => "LDY"
  | .lsr => "LSR" | .nop => "NOP" | .ora => "ORA" | .pha => "PHA"
  | .php => "PHP" | .pla => "PLA" | .plp => "PLP" | .rol => "ROL"
  | .ror => "ROR" | .rti => "RTI" | .rts => "RTS" | .sbc => "SBC"
  | .sec => "SEC" | .sed => "SED" | .sei => "SEI" | .sta => "STA"
  | .stx => "STX" | .sty => "STY" | .tax => "TAX" | .tay => "TAY"
  | .tsx => "TSX" | .txa => "TXA" | .txs => "TXS" | .tya => "TYA"

/-- One hexadecimal digit. -/
def hexDigit (d : Nat) : Char :=
  ['0', '1', '2', '3', '4', '5', '6', '7', '8', '9', 'A', 'B', 'C', 'D', 'E', 'F'].getD d '0'

/-- Two hexadecimal digits. -/
def hexByte (b : Byte) : String := String.ofList [hexDigit (b.toNat / 16), hexDigit (b.toNat % 16)]

/-- Four hexadecimal digits. -/
def hexWord (w : Word) : String :=
  String.ofList [hexDigit (w.toNat / 4096), hexDigit (w.toNat / 256 % 16), hexDigit (w.toNat / 16 % 16),
    hexDigit (w.toNat % 16)]

/-- The target a Relative operand names: the offset is `target - (address of the instruction + 2)` as a signed byte
(R71). The core computes no target (R58). -/
def relativeTarget (instructionAddress : Word) (offset : Byte) : Word :=
  instructionAddress + 2 + offset.signExtend 16

/-- The offset byte of a target in reach (R71). -/
def relativeOffset (instructionAddress target : Word) : Byte := (target - (instructionAddress + 2)).setWidth 8

/-- What follows the mnemonic, from the operand bytes as numbers (R49); Relative is written as its target address. -/
def operandSpelling (instructionAddress : Word) : Mode → List Byte → String
  | .implied, _ => ""
  | .accumulator, _ => " A"
  | .immediate, b :: _ => " #$" ++ hexByte b
  | .zeroPage, b :: _ => " $" ++ hexByte b
  | .zeroPageX, b :: _ => " $" ++ hexByte b ++ ",X"
  | .zeroPageY, b :: _ => " $" ++ hexByte b ++ ",Y"
  | .relative, b :: _ => " $" ++ hexWord (relativeTarget instructionAddress b)
  | .absolute, lo :: hi :: _ => " $" ++ hexByte hi ++ hexByte lo
  | .absoluteX, lo :: hi :: _ => " $" ++ hexByte hi ++ hexByte lo ++ ",X"
  | .absoluteY, lo :: hi :: _ => " $" ++ hexByte hi ++ hexByte lo ++ ",Y"
  | .indirect, lo :: hi :: _ => " ($" ++ hexByte hi ++ hexByte lo ++ ")"
  | .indexedIndirectX, b :: _ => " ($" ++ hexByte b ++ ",X)"
  | .indirectIndexedY, b :: _ => " ($" ++ hexByte b ++ "),Y"
  | _, _ => ""

/-- The assembler spelling of an instruction that stands at an address (R71). -/
def assembler (instructionAddress : Word) (i : Instr) : String :=
  mnemonic i.tag ++ operandSpelling instructionAddress i.mode i.operandBytes

end Sys2Proof.Machine
end

