-- ==== Sys2Proof/Machine/Trace.lean ====
section
/-! DEFINITION. Sys2Proof/Machine/Trace.lean: the diagnostic trace as an output beside the step, "an output log that is
not part of the Machine" (10_state.md R34; log 10). No meaning and no claim reads it. -/

namespace Sys2Proof.Machine

/-- The event `Unimplemented(tag, operand)` (40_cycle.md R78). -/
structure TraceEvent where
  tag : Tag
  operand : Operand
  deriving DecidableEq, Repr

/-- What executing a pair emits: one event exactly where the fallback runs; NOP emits none (R78, 45_nop.md R99). -/
def traceOf (tag : Tag) (operand : Operand) : List TraceEvent :=
  if hasSemantics tag operand then [] else [{ tag := tag, operand := operand }]

/-- What one step emits; a halt emits nothing (R73). -/
def stepTrace (cfg : Config State) (s : State) : List TraceEvent :=
  match fetchNextAndDecode cfg s with
  | none => []
  | some ((tag, operand), _) => traceOf tag operand

/-- What a run under fuel emits, oldest event first. -/
def runTrace (cfg : Config State) : Nat → State → List TraceEvent
  | 0, _ => []
  | fuel + 1, s =>
    match engineStep cfg s with
    | .halted _ => []
    | .running s' => stepTrace cfg s ++ runTrace cfg fuel s'

/-- What an action of the host makes the core emit: only what executes a pair emits (R78, 40_cycle.md R82). -/
def hostTrace : HostAction → State → List TraceEvent
  | .executeInstruction tag operand, _ => traceOf tag operand
  | .run fuel, s => runTrace defaultConfig fuel s
  | _, _ => []

end Sys2Proof.Machine
end

