-- ==== Sys2Proof/Tests/Slice0.lean ====
section
/-! SUPPORT. Sys2Proof/Tests/Slice0.lean: the model's own tests. Expected results come from the spec: the *Encoding*
lines of R94 to R149 for the decode tests, the vectors of 95_test_vectors.md (named by their numbers) for the rest. The
last part has one witness for every obligation with hypotheses, at boundary values where the statement has clauses. -/

namespace Sys2Proof.Tests

open Sys2Proof.Machine

/-! ### WellFormed: each check refuses an ill-formed term -/

/-- STA has no Immediate mode (R67). -/
theorem test_wellformed_refuses_a_mode_the_table_lacks :
    Form.modeAllowed { tag := .sta, mode := .immediate, bytes := [0x10] } = false ∧
    Form.wellFormed { tag := .sta, mode := .immediate, bytes := [0x10] } = false := by decide

/-- LDX is indexed by Y, never by X (R67). -/
theorem test_wellformed_refuses_ldx_indexed_by_x :
    Form.wellFormed { tag := .ldx, mode := .absoluteX, bytes := [0x34, 0x12] } = false := by decide

/-- Immediate takes one byte (R49, 90_conflicts.md C5). -/
theorem test_wellformed_refuses_a_missing_operand_byte :
    Form.bytesFit { tag := .lda, mode := .immediate, bytes := [] } = false ∧
    Form.wellFormed { tag := .lda, mode := .immediate, bytes := [] } = false := by decide

/-- Implied takes none (R49). -/
theorem test_wellformed_refuses_an_operand_byte_too_many :
    Form.bytesFit { tag := .nop, mode := .implied, bytes := [0x00] } = false ∧
    Form.wellFormed { tag := .nop, mode := .implied, bytes := [0x00] } = false := by decide

theorem test_wellformed_accepts :
    Form.wellFormed { tag := .lda, mode := .immediate, bytes := [0x42] } = true ∧
    Form.wellFormed { tag := .jmp, mode := .indirect, bytes := [0x34, 0x12] } = true ∧
    Instr.wellFormed (.staIzy 0x20) = true := by decide

/-! ### Decode: every constructor, by a word written out from the spec's encoding of it -/

/-- The instruction a list of bytes decodes to, with no byte left over. -/
def decodesTo (bytes : List Byte) : Option Instr :=
  match decode bytes with
  | .ok (i, []) => some i
  | _ => none

theorem test_decode_addwithcarry :
    [[0b01100001, 0x34],
     [0b01100101, 0x34],
     [0b01101001, 0x34],
     [0b01101101, 0x34, 0x12],
     [0b01110001, 0x34],
     [0b01110101, 0x34],
     [0b01111001, 0x34, 0x12],
     [0b01111101, 0x34, 0x12]].map decodesTo =
    [some (.adcIzx 0x34),
     some (.adcZp 0x34),
     some (.adcImm 0x34),
     some (.adcAbs 0x34 0x12),
     some (.adcIzy 0x34),
     some (.adcZpx 0x34),
     some (.adcAbsy 0x34 0x12),
     some (.adcAbsx 0x34 0x12)] := by decide

theorem test_decode_loads_1 :
    [[0b10100001, 0x34],
     [0b10100101, 0x34],
     [0b10101001, 0x34],
     [0b10101101, 0x34, 0x12],
     [0b10110001, 0x34],
     [0b10110101, 0x34],
     [0b10111001, 0x34, 0x12],
     [0b10111101, 0x34, 0x12],
     [0b10100010, 0x34],
     [0b10100110, 0x34],
     [0b10101110, 0x34, 0x12],
     [0b10110110, 0x34],
     [0b10111110, 0x34, 0x12],
     [0b10100000, 0x34],
     [0b10100100, 0x34],
     [0b10101100, 0x34, 0x12]].map decodesTo =
    [some (.ldaIzx 0x34),
     some (.ldaZp 0x34),
     some (.ldaImm 0x34),
     some (.ldaAbs 0x34 0x12),
     some (.ldaIzy 0x34),
     some (.ldaZpx 0x34),
     some (.ldaAbsy 0x34 0x12),
     some (.ldaAbsx 0x34 0x12),
     some (.ldxImm 0x34),
     some (.ldxZp 0x34),
     some (.ldxAbs 0x34 0x12),
     some (.ldxZpy 0x34),
     some (.ldxAbsy 0x34 0x12),
     some (.ldyImm 0x34),
     some (.ldyZp 0x34),
     some (.ldyAbs 0x34 0x12)] := by decide

theorem test_decode_loads_2 :
    [[0b10110100, 0x34],
     [0b10111100, 0x34, 0x12]].map decodesTo =
    [some (.ldyZpx 0x34),
     some (.ldyAbsx 0x34 0x12)] := by decide

theorem test_decode_decrement :
    [[0b11001010]].map decodesTo =
    [some (.dexImp)] := by decide

theorem test_decode_nooperation :
    [[0b11101010]].map decodesTo =
    [some (.nopImp)] := by decide

theorem test_decode_logic_1 :
    [[0b00100001, 0x34],
     [0b00100101, 0x34],
     [0b00101001, 0x34],
     [0b00101101, 0x34, 0x12],
     [0b00110001, 0x34],
     [0b00110101, 0x34],
     [0b00111001, 0x34, 0x12],
     [0b00111101, 0x34, 0x12],
     [0b00100100, 0x34],
     [0b00101100, 0x34, 0x12],
     [0b01000001, 0x34],
     [0b01000101, 0x34],
     [0b01001001, 0x34],
     [0b01001101, 0x34, 0x12],
     [0b01010001, 0x34],
     [0b01010101, 0x34]].map decodesTo =
    [some (.andIzx 0x34),
     some (.andZp 0x34),
     some (.andImm 0x34),
     some (.andAbs 0x34 0x12),
     some (.andIzy 0x34),
     some (.andZpx 0x34),
     some (.andAbsy 0x34 0x12),
     some (.andAbsx 0x34 0x12),
     some (.bitZp 0x34),
     some (.bitAbs 0x34 0x12),
     some (.eorIzx 0x34),
     some (.eorZp 0x34),
     some (.eorImm 0x34),
     some (.eorAbs 0x34 0x12),
     some (.eorIzy 0x34),
     some (.eorZpx 0x34)] := by decide

theorem test_decode_logic_2 :
    [[0b01011001, 0x34, 0x12],
     [0b01011101, 0x34, 0x12],
     [0b00000001, 0x34],
     [0b00000101, 0x34],
     [0b00001001, 0x34],
     [0b00001101, 0x34, 0x12],
     [0b00010001, 0x34],
     [0b00010101, 0x34],
     [0b00011001, 0x34, 0x12],
     [0b00011101, 0x34, 0x12]].map decodesTo =
    [some (.eorAbsy 0x34 0x12),
     some (.eorAbsx 0x34 0x12),
     some (.oraIzx 0x34),
     some (.oraZp 0x34),
     some (.oraImm 0x34),
     some (.oraAbs 0x34 0x12),
     some (.oraIzy 0x34),
     some (.oraZpx 0x34),
     some (.oraAbsy 0x34 0x12),
     some (.oraAbsx 0x34 0x12)] := by decide

theorem test_decode_compare_1 :
    [[0b11000001, 0x34],
     [0b11000101, 0x34],
     [0b11001001, 0x34],
     [0b11001101, 0x34, 0x12],
     [0b11010001, 0x34],
     [0b11010101, 0x34],
     [0b11011001, 0x34, 0x12],
     [0b11011101, 0x34, 0x12],
     [0b11100000, 0x34],
     [0b11100100, 0x34],
     [0b11101100, 0x34, 0x12],
     [0b11000000, 0x34],
     [0b11000100, 0x34],
     [0b11001100, 0x34, 0x12],
     [0b11100001, 0x34],
     [0b11100101, 0x34]].map decodesTo =
    [some (.cmpIzx 0x34),
     some (.cmpZp 0x34),
     some (.cmpImm 0x34),
     some (.cmpAbs 0x34 0x12),
     some (.cmpIzy 0x34),
     some (.cmpZpx 0x34),
     some (.cmpAbsy 0x34 0x12),
     some (.cmpAbsx 0x34 0x12),
     some (.cpxImm 0x34),
     some (.cpxZp 0x34),
     some (.cpxAbs 0x34 0x12),
     some (.cpyImm 0x34),
     some (.cpyZp 0x34),
     some (.cpyAbs 0x34 0x12),
     some (.sbcIzx 0x34),
     some (.sbcZp 0x34)] := by decide

theorem test_decode_compare_2 :
    [[0b11101001, 0x34],
     [0b11101101, 0x34, 0x12],
     [0b11110001, 0x34],
     [0b11110101, 0x34],
     [0b11111001, 0x34, 0x12],
     [0b11111101, 0x34, 0x12]].map decodesTo =
    [some (.sbcImm 0x34),
     some (.sbcAbs 0x34 0x12),
     some (.sbcIzy 0x34),
     some (.sbcZpx 0x34),
     some (.sbcAbsy 0x34 0x12),
     some (.sbcAbsx 0x34 0x12)] := by decide

theorem test_decode_shifts_1 :
    [[0b00000110, 0x34],
     [0b00001010],
     [0b00001110, 0x34, 0x12],
     [0b00010110, 0x34],
     [0b00011110, 0x34, 0x12],
     [0b01000110, 0x34],
     [0b01001010],
     [0b01001110, 0x34, 0x12],
     [0b01010110, 0x34],
     [0b01011110, 0x34, 0x12],
     [0b00100110, 0x34],
     [0b00101010],
     [0b00101110, 0x34, 0x12],
     [0b00110110, 0x34],
     [0b00111110, 0x34, 0x12],
     [0b01100110, 0x34]].map decodesTo =
    [some (.aslZp 0x34),
     some (.aslAcc),
     some (.aslAbs 0x34 0x12),
     some (.aslZpx 0x34),
     some (.aslAbsx 0x34 0x12),
     some (.lsrZp 0x34),
     some (.lsrAcc),
     some (.lsrAbs 0x34 0x12),
     some (.lsrZpx 0x34),
     some (.lsrAbsx 0x34 0x12),
     some (.rolZp 0x34),
     some (.rolAcc),
     some (.rolAbs 0x34 0x12),
     some (.rolZpx 0x34),
     some (.rolAbsx 0x34 0x12),
     some (.rorZp 0x34)] := by decide

theorem test_decode_shifts_2 :
    [[0b01101010],
     [0b01101110, 0x34, 0x12],
     [0b01110110, 0x34],
     [0b01111110, 0x34, 0x12]].map decodesTo =
    [some (.rorAcc),
     some (.rorAbs 0x34 0x12),
     some (.rorZpx 0x34),
     some (.rorAbsx 0x34 0x12)] := by decide

theorem test_decode_incdec :
    [[0b11000110, 0x34],
     [0b11001110, 0x34, 0x12],
     [0b11010110, 0x34],
     [0b11011110, 0x34, 0x12],
     [0b10001000],
     [0b11100110, 0x34],
     [0b11101110, 0x34, 0x12],
     [0b11110110, 0x34],
     [0b11111110, 0x34, 0x12],
     [0b11101000],
     [0b11001000]].map decodesTo =
    [some (.decZp 0x34),
     some (.decAbs 0x34 0x12),
     some (.decZpx 0x34),
     some (.decAbsx 0x34 0x12),
     some (.deyImp),
     some (.incZp 0x34),
     some (.incAbs 0x34 0x12),
     some (.incZpx 0x34),
     some (.incAbsx 0x34 0x12),
     some (.inxImp),
     some (.inyImp)] := by decide

theorem test_decode_stores :
    [[0b10000001, 0x34],
     [0b10000101, 0x34],
     [0b10001101, 0x34, 0x12],
     [0b10010001, 0x34],
     [0b10010101, 0x34],
     [0b10011001, 0x34, 0x12],
     [0b10011101, 0x34, 0x12],
     [0b10000110, 0x34],
     [0b10001110, 0x34, 0x12],
     [0b10010110, 0x34],
     [0b10000100, 0x34],
     [0b10001100, 0x34, 0x12],
     [0b10010100, 0x34]].map decodesTo =
    [some (.staIzx 0x34),
     some (.staZp 0x34),
     some (.staAbs 0x34 0x12),
     some (.staIzy 0x34),
     some (.staZpx 0x34),
     some (.staAbsy 0x34 0x12),
     some (.staAbsx 0x34 0x12),
     some (.stxZp 0x34),
     some (.stxAbs 0x34 0x12),
     some (.stxZpy 0x34),
     some (.styZp 0x34),
     some (.styAbs 0x34 0x12),
     some (.styZpx 0x34)] := by decide

theorem test_decode_transfers :
    [[0b10101010],
     [0b10101000],
     [0b10111010],
     [0b10001010],
     [0b10011010],
     [0b10011000]].map decodesTo =
    [some (.taxImp),
     some (.tayImp),
     some (.tsxImp),
     some (.txaImp),
     some (.txsImp),
     some (.tyaImp)] := by decide

theorem test_decode_branches :
    [[0b10010000, 0x34],
     [0b10110000, 0x34],
     [0b11110000, 0x34],
     [0b00110000, 0x34],
     [0b11010000, 0x34],
     [0b00010000, 0x34],
     [0b01010000, 0x34],
     [0b01110000, 0x34]].map decodesTo =
    [some (.bccRel 0x34),
     some (.bcsRel 0x34),
     some (.beqRel 0x34),
     some (.bmiRel 0x34),
     some (.bneRel 0x34),
     some (.bplRel 0x34),
     some (.bvcRel 0x34),
     some (.bvsRel 0x34)] := by decide

theorem test_decode_control :
    [[0b00000000],
     [0b01001100, 0x34, 0x12],
     [0b01101100, 0x34, 0x12],
     [0b00100000, 0x34, 0x12],
     [0b01000000],
     [0b01100000]].map decodesTo =
    [some (.brkImp),
     some (.jmpAbs 0x34 0x12),
     some (.jmpInd 0x34 0x12),
     some (.jsrAbs 0x34 0x12),
     some (.rtiImp),
     some (.rtsImp)] := by decide

theorem test_decode_flagops :
    [[0b00011000],
     [0b11011000],
     [0b01011000],
     [0b10111000],
     [0b00111000],
     [0b11111000],
     [0b01111000]].map decodesTo =
    [some (.clcImp),
     some (.cldImp),
     some (.cliImp),
     some (.clvImp),
     some (.secImp),
     some (.sedImp),
     some (.seiImp)] := by decide

theorem test_decode_stack :
    [[0b01001000],
     [0b00001000],
     [0b01101000],
     [0b00101000]].map decodesTo =
    [some (.phaImp),
     some (.phpImp),
     some (.plaImp),
     some (.plpImp)] := by decide

/-- Undefined, truncated and empty lists are rejected by name (R68, R48). -/
theorem test_decode_rejects_by_name :
    decode [0x02, 0x34, 0x12] = .error (.undefinedOpcode 0x02) ∧
    decode [0xFF] = .error (.undefinedOpcode 0xFF) ∧
    decode [0xA9] = .error (.truncated 0xA9) ∧
    decode [0x4C, 0x00] = .error (.truncated 0x4C) ∧
    decode [] = .error .noBytes := by
  repeat' apply And.intro
  all_goals decide

/-- The decoder leaves the bytes after the instruction. -/
theorem test_decode_leaves_the_rest :
    decode [0xAD, 0x34, 0x12, 0xEA] = .ok (.ldaAbs 0x34 0x12, [0xEA]) := by decide

/-! ### Vectors of 95_test_vectors.md, one step each -/

/-- A state with the given registers, the bytes placed from PC on and the cells written. -/
def machine (a x y p : Byte) (pc : Word) (bytes : List Byte) (cells : List (Word × Byte)) : State :=
  memWriteSlice pc bytes
    (cells.foldl (fun s c => memWrite c.1 c.2 s) { State.reset with a := a, x := x, y := y, p := p, pc := pc })

/-- A, X, Y, P and PC after a step that leaves memory as it was; none otherwise. -/
def after (s : State) : Option (Byte × Byte × Byte × Byte × Word) :=
  match step s with
  | .next t => if t.mem = s.mem then some (t.a, t.x, t.y, t.p, t.pc) else none
  | _ => none

/-- The outcome is this next state. -/
def nextIs (r : Result) (t : State) : Bool :=
  match r with
  | .next u => decide (u = t)
  | _ => false

/-- The outcome is the halt. -/
def halts (r : Result) : Bool :=
  match r with
  | .fault .halted => true
  | _ => false

theorem eq_next {r : Result} {t : State} (h : nextIs r t = true) : r = .next t := by
  cases r <;> simp_all [nextIs]

/-- A and P after ADC #v from A and P. -/
def adcStep (r : Byte × Byte × Byte) : Option (Byte × Byte) :=
  (after (machine r.1 0x00 0x00 r.2.1 0x0200 [0x69, r.2.2] [])).map (fun t => (t.1, t.2.2.2.1))

/-- ADC-1 to ADC-10: the carry-in is 0. -/
theorem test_adc_without_carry_in :
    [(0x00, 0x00, 0x00), (0x01, 0x00, 0x01), (0x7F, 0x00, 0x01), (0x80, 0x00, 0xFF), (0x80, 0x00, 0x80),
     (0xFF, 0x00, 0x01), (0x01, 0x00, 0xFF), (0x7F, 0x00, 0x80), (0x50, 0x00, 0x50), (0xD0, 0x00, 0x90)].map adcStep =
    [some (0x00, 0x02), some (0x02, 0x00), some (0x80, 0xC0), some (0x7F, 0x41), some (0x00, 0x43),
     some (0x00, 0x03), some (0x00, 0x03), some (0xFF, 0x80), some (0xA0, 0xC0), some (0x60, 0x41)] := by decide

/-- ADC-11 to ADC-19, the carry-in is 1; ADC-20, D is set. -/
theorem test_adc_with_carry_in_and_with_d :
    [(0xFF, 0x01, 0xFF), (0x05, 0x01, 0xFF), (0x00, 0x01, 0xFF), (0x00, 0x01, 0x7F), (0x7F, 0x01, 0x00),
     (0x7F, 0x01, 0x7F), (0xFE, 0x01, 0x01), (0x80, 0x01, 0x7F), (0x3F, 0x01, 0x40), (0x09, 0x08, 0x01)].map adcStep =
    [some (0xFF, 0x81), some (0x05, 0x01), some (0x00, 0x03), some (0x80, 0xC0), some (0x80, 0xC0),
     some (0xFF, 0xC0), some (0x00, 0x03), some (0x00, 0x03), some (0x80, 0xC0), some (0x0A, 0x08)] := by decide

/-- ADC-11, 12, 13, 14 and 15 under SourceLiteral: C and V are 0 (R88). -/
theorem test_adc_under_source_literal :
    [((0xFF : Byte), (0xFF : Byte)), (0x05, 0xFF), (0x00, 0xFF), (0x00, 0x7F), (0x7F, 0x00)].map
      (fun r => let t := addWithCarryUnder .sourceLiteral r.2 { State.reset with a := r.1, p := 0x01 }
        (t.a, t.p &&& 0x41)) =
    [(0xFF, 0x00), (0x05, 0x00), (0x00, 0x00), (0x80, 0x00), (0x80, 0x00)] := by decide

/-- LD-1, LD-2. -/
theorem test_lda_flags :
    after (machine 0x99 0x00 0x00 0x41 0x0200 [0xA9, 0x00] []) = some (0x00, 0x00, 0x00, 0x43, 0x0202) ∧
    after (machine 0x99 0x00 0x00 0x03 0x0200 [0xA9, 0x80] []) = some (0x80, 0x00, 0x00, 0x81, 0x0202) := by decide

/-- LD-3, LD-5. -/
theorem test_ldx_flags :
    after (machine 0x00 0x00 0x00 0x82 0x0200 [0xA2, 0x7F] []) = some (0x00, 0x7F, 0x00, 0x00, 0x0202) ∧
    after (machine 0x00 0x00 0x00 0xC3 0x0200 [0xA2, 0x01] []) = some (0x00, 0x01, 0x00, 0x41, 0x0202) := by decide

/-- LD-4. -/
theorem test_ldy_flags :
    after (machine 0x00 0x00 0x00 0x00 0x0200 [0xA0, 0xFF] []) = some (0x00, 0x00, 0xFF, 0x80, 0x0202) := by decide

/-- DEX-1, DEX-2, DEX-3. -/
theorem test_dex_wraps :
    after (machine 0x00 0x00 0x00 0x00 0x0200 [0xCA] []) = some (0x00, 0xFF, 0x00, 0x80, 0x0201) ∧
    after (machine 0x00 0x01 0x00 0x00 0x0200 [0xCA] []) = some (0x00, 0x00, 0x00, 0x02, 0x0201) ∧
    after (machine 0x00 0x80 0x00 0x80 0x0200 [0xCA] []) = some (0x00, 0x7F, 0x00, 0x00, 0x0201) := by
  repeat' apply And.intro
  all_goals decide

/-- DEX-4, DEX-5. -/
theorem test_dex_keeps_carry_and_overflow :
    after (machine 0x00 0xFF 0x00 0x41 0x0200 [0xCA] []) = some (0x00, 0xFE, 0x00, 0xC1, 0x0201) ∧
    after (machine 0x00 0x02 0x00 0x02 0x0200 [0xCA] []) = some (0x00, 0x01, 0x00, 0x00, 0x0201) := by decide

/-- AM-2, AM-3: the zero page, and its wrap. -/
theorem test_lda_zero_page :
    after (machine 0x00 0x00 0x00 0x00 0x0200 [0xA5, 0x10] [(0x0010, 0x55)]) =
      some (0x55, 0x00, 0x00, 0x00, 0x0202) ∧
    after (machine 0x00 0x20 0x00 0x00 0x0200 [0xB5, 0xF0] [(0x0010, 0x66), (0x0110, 0x99)]) =
      some (0x66, 0x20, 0x00, 0x00, 0x0202) := by decide

/-- AM-4: LDX indexed by Y. -/
theorem test_ldx_zero_page_y :
    after (machine 0x00 0x00 0x02 0x00 0x0200 [0xB6, 0xFF] [(0x0001, 0x77)]) =
      some (0x00, 0x77, 0x02, 0x00, 0x0202) := by decide

/-- AM-5, AM-6, AM-7: little-endian, the wrap at 0xFFFF, a page crossed. -/
theorem test_lda_absolute :
    after (machine 0x00 0x00 0x00 0x00 0x0200 [0xAD, 0x34, 0x12] [(0x1234, 0x88)]) =
      some (0x88, 0x00, 0x00, 0x80, 0x0203) ∧
    after (machine 0x00 0x02 0x00 0x00 0x0200 [0xBD, 0xFF, 0xFF] [(0x0001, 0x11)]) =
      some (0x11, 0x02, 0x00, 0x00, 0x0203) ∧
    after (machine 0x00 0x00 0x20 0x00 0x0200 [0xB9, 0xF0, 0x12] [(0x1310, 0x22)]) =
      some (0x22, 0x00, 0x20, 0x00, 0x0203) := by
  repeat' apply And.intro
  all_goals decide

/-- AM-8, AM-9: the pointer at operand + X, and its wrap from 0xFF to 0x00. -/
theorem test_lda_indexed_indirect :
    after (machine 0x00 0x04 0x00 0x00 0x0200 [0xA1, 0x20] [(0x0025, 0x30), (0x3000, 0x33)]) =
      some (0x33, 0x04, 0x00, 0x00, 0x0202) ∧
    after (machine 0x00 0x04 0x00 0x00 0x0200 [0xA1, 0xFB] [(0x00FF, 0x10), (0x0000, 0x40), (0x4010, 0x44)]) =
      some (0x44, 0x04, 0x00, 0x00, 0x0202) := by decide

/-- AM-10, AM-11: the pointer then Y, a carry into the high byte, and both wraps. -/
theorem test_lda_indirect_indexed :
    after (machine 0x00 0x00 0x10 0x00 0x0200 [0xB1, 0x30] [(0x0030, 0xF8), (0x0031, 0x40), (0x4108, 0x5A)]) =
      some (0x5A, 0x00, 0x10, 0x00, 0x0202) ∧
    after (machine 0x00 0x00 0x01 0x00 0x0200 [0xB1, 0xFF] [(0x00FF, 0xFF), (0x0000, 0xFF)]) =
      some (0xFF, 0x00, 0x01, 0x80, 0x0202) := by decide

/-- AM-12, AM-13: an index of 0x80 or more is added unsigned. -/
theorem test_ldy_index_is_unsigned :
    after (machine 0x00 0xFF 0x00 0x00 0x0200 [0xBC, 0x00, 0x80] [(0x80FF, 0x80)]) =
      some (0x00, 0xFF, 0x80, 0x80, 0x0203) ∧
    after (machine 0x00 0x80 0x00 0x00 0x0200 [0xB4, 0x80] []) = some (0x00, 0x80, 0x00, 0x02, 0x0202) := by decide

/-- The address column of AM-10 for ADC's opcode: ADC reads the same byte, and adds it. -/
theorem test_adc_indirect_indexed :
    after (machine 0x01 0x00 0x10 0x00 0x0200 [0x71, 0x30] [(0x0030, 0xF8), (0x0031, 0x40), (0x4108, 0x5A)]) =
      some (0x5B, 0x00, 0x10, 0x00, 0x0202) := by decide

/-- FD-1, FD-2, and the halted state of FD-2 again (FD-7). -/
theorem test_undefined_bytes_halt :
    halts (step (machine 0x00 0x00 0x00 0x00 0x0000 [0x02] [])) = true ∧
    halts (step (machine 0x00 0x00 0x00 0x00 0x1234 [0xFF] [])) = true ∧
    run defaultConfig 2 (machine 0x00 0x00 0x00 0x00 0x1234 [0xFF] []) =
      .halted 0 (machine 0x00 0x00 0x00 0x00 0x1234 [0xFF] []) := by
  repeat' apply And.intro
  all_goals decide

/-- FD-3, FD-4: operand bytes are read on from 0x0000. -/
theorem test_fetch_wraps :
    after (machine 0x00 0x00 0x00 0x00 0xFFFF [0xA9, 0x07] []) = some (0x07, 0x00, 0x00, 0x00, 0x0001) ∧
    after (machine 0x00 0x00 0x00 0x00 0xFFFE [0xAD, 0x34, 0x12] [(0x1234, 0x9C)]) =
      some (0x9C, 0x00, 0x00, 0x80, 0x0001) := by decide

/-- FD-5, NOP-1, with no trace. -/
theorem test_nop :
    after (machine 0x00 0x00 0x00 0x00 0xFFFF [0xEA] []) = some (0x00, 0x00, 0x00, 0x00, 0x0000) ∧
    after (machine 0x12 0x34 0x56 0xC3 0x0200 [0xEA] []) = some (0x12, 0x34, 0x56, 0xC3, 0x0201) ∧
    stepTrace defaultConfig (machine 0x12 0x34 0x56 0xC3 0x0200 [0xEA] []) = [] := by
  repeat' apply And.intro
  all_goals decide

/-- FD-6, UN-1 to UN-3, UN-5 to UN-10 and SEC of UN-4: JSR, STA, JMP, BEQ, INX, BRK, SBC, ASL A, RTI, TXS, SEC. -/
theorem test_unimplemented_only_advance_pc :
    [[0x20, 0x00, 0x10], [0x85, 0x10], [0x4C, 0x00, 0x80], [0xF0, 0x10], [0xE8], [0x00], [0xE9, 0x01], [0x0A],
     [0x40], [0x9A], [0x38]].map (fun bytes => after (machine 0x10 0x20 0x30 0x02 0x0300 bytes [])) =
    [0x0303, 0x0302, 0x0303, 0x0302, 0x0301, 0x0301, 0x0302, 0x0301, 0x0301, 0x0301, 0x0301].map
      (fun pc => some (0x10, 0x20, 0x30, 0x02, pc)) := by decide

/-- UN-1: the trace of STA $10. -/
theorem test_unimplemented_trace :
    stepTrace defaultConfig (machine 0x10 0x20 0x30 0x00 0x0300 [0x85, 0x10] []) =
      [{ tag := .sta, operand := .address 0x0010 }] := by decide

/-- L1-5: the fifth call loads 5, five more decrements reach 0, a sixth gives -1; entry points alone, no step. -/
theorem test_entry_points :
    let t := [HostAction.loadXRegister 0x05, .decX, .decX, .decX, .decX, .decX].foldl
      (fun s action => hostAct action s) State.reset
    (t.x, t.p, t.pc) = (0x00, 0x02, 0x0000) ∧
    ((hostAct .decX t).x, (hostAct .decX t).p) = (0xFF, 0x80) := by decide

/-- The dump shows A, here after ADC-3, and reading it or a flag changes nothing (R19, R34 (b), R167). -/
theorem test_dump_and_host_reads :
    let s := hostAct (.addWithCarry 0x01) { State.reset with a := 0x7F }
    (dump s).accumulator = 0x80 ∧ hostRead .dump s = .dump (dump s) ∧ hostRead (.flag .v) s = .bit true ∧
    [HostAction.read .dump, .read (.flag .v)].foldl (fun t action => hostAct action t) s = s := by
  refine ⟨by decide, rfl, by decide, rfl⟩

/-- STA called alone as an entry point leaves its event, the dump none (R78, R82). -/
theorem test_host_trace :
    hostTrace (.executeInstruction .sta (.address 0x0010)) State.reset = [{ tag := .sta, operand := .address 0x0010 }] ∧
    hostTrace (.read .dump) State.reset = [] := by decide

/-- P1 booted by the host at the default entry: two instructions, A = 80, P = C0, PC = 0004. -/
theorem test_boot_and_run_p1 :
    (match run defaultConfig 9 (boot 0x0000 [0x69, 0x7F, 0x69, 0x01, 0x02] State.reset) with
      | .halted n t => some (n, t.a, t.p, t.pc)
      | .notYetHalted _ => none) = some (2, 0x80, 0xC0, 0x0004) := by decide

/-- The spellings of P2 and P3, and of ASL on the accumulator; BNE $0002 at 0x0003 is the branch of P3. -/
theorem test_assembler_spelling :
    assembler 0x0404 (.ldaAbsx 0x00 0x02) = "LDA $0200,X" ∧ assembler 0x0407 (.adcIzy 0x10) = "ADC ($10),Y" ∧
    assembler 0x0000 .aslAcc = "ASL A" ∧ assembler 0x0003 (.bneRel 0xFD) = "BNE $0002" ∧
    relativeOffset 0x0003 0x0002 = 0xFD := by
  repeat' apply And.intro
  all_goals decide

/-! ### The host's two questions, evaluated by the kernel -/

theorem test_table_words :
    decodeTableWord 24 0x1234AD = some (.ldaAbs 0x34 0x12) ∧ decodeTableWord 8 0xA9 = some (.ldaImm 0x00) ∧
    decodeTableWord 8 0x02 = none := by
  repeat' apply And.intro
  all_goals decide

theorem test_fetch_word_runs_first_after_reset :
    after (State.reset.withFetchWord 16 0x42A9) = some (0x42, 0x00, 0x00, 0x00, 0x0002) ∧
    after (State.reset.withFetchWord 8 0xCA) = some (0x00, 0xFF, 0x00, 0x80, 0x0001) ∧
    halts (step (State.reset.withFetchWord 8 0xFF)) = true := by
  repeat' apply And.intro
  all_goals decide

/-! ### Witnesses: for every obligation with hypotheses, states and operands that meet them all -/

/-- A state that meets `Inv`, with a listed cell at each end of memory, LDA #$80 at PC = 0xFFFF and its operand
byte at 0x0000. -/
def sample : State := machine 0x7F 0x80 0x01 0xC3 0xFFFF [0xA9, 0x80] [(0x00FF, 0x10)]

/-- The state after a step of `sample`. -/
def sampleNext : State := { sample with a := 0x80, p := 0xC1, pc := 0x0001 }

theorem sample_inv : Machine.Inv sample := by unfold Machine.Inv; decide
theorem sample_step : step sample = .next sampleNext := eq_next (by decide)

/-- O3. -/
theorem witness_EveryStepKeepsTheInvariant : Machine.Inv sample ∧ step sample = .next sampleNext :=
  ⟨sample_inv, sample_step⟩

/-- O4: a memory with cells, and one action of each kind that could reach memory. -/
theorem witness_HostAndCoreTogetherKeepMemoryCanonical :
    Memory.wf sample.mem = true ∧ sample.mem = [(0x0000, 0x80), (0x00FF, 0x10), (0xFFFF, 0xA9)] ∧
    ([HostAction.writeMemory 0xFFFF 0x00, .read .dump, .writeMemory 0x0100 0x01, .run 3, .writePc 0x00FF].foldl
      (fun t action => hostAct action t) sample).mem ≠ sample.mem := by
  repeat' apply And.intro
  all_goals decide

/-- O5: two canonical memories that read alike at every address, with cells at both ends. -/
theorem witness_CanonicalMemoriesThatReadAlikeAreEqual :
    Memory.wf [(0, 0x01), (65535, 0xFF)] = true ∧ Memory.wf (memWrite 0x0000 0x01 (memWrite 0xFFFF 0xFF State.reset)).mem = true ∧
    ∀ a : Word, memRead [(0, 0x01), (65535, 0xFF)] a =
      memRead (memWrite 0x0000 0x01 (memWrite 0xFFFF 0xFF State.reset)).mem a :=
  ⟨by decide, by decide, fun _ => rfl⟩

/-- O6: each clause, at the top of memory. -/
theorem witness_OnlyTheHostsWriteChangesMemory :
    Memory.wf sample.mem = true ∧ ((0x0000 : Word) ≠ 0xFFFF) ∧
    exec (.staZp 0xFF) sample = .next { sample with pc := 0x0001 } := by
  repeat' apply And.intro
  all_goals first | decide | exact eq_next (by decide)

/-- O7: the last byte of a slice across the top of memory. -/
theorem witness_SliceReadsConsecutiveBytesModulo65536 :
    (1 < 2) ∧ memReadSlice sample.mem 0xFFFF 2 = [0xA9, 0x80] := by decide

/-- O9. -/
theorem witness_EveryDecodedListIsTheEncodingOfItsInstruction :
    decode [0xFE, 0xFF, 0xFF, 0x02] = .ok (.incAbsx 0xFF 0xFF, [0x02]) := by decide

/-- O11: an instruction of three bytes across the top of memory, and one of a single byte before it. -/
theorem witness_StepRunsTheInstructionDecodedAtPc :
    decode (memReadSlice sample.mem sample.pc 3) = .ok (.ldaImm 0x80, [0x00]) ∧
    (let s := machine 0x00 0x00 0x00 0x00 0xFFFE [0xAD, 0x34, 0x12] []
     decode (memReadSlice s.mem s.pc 3) = .ok (.ldaAbs 0x34 0x12, [])) := by decide

/-- O12: both sides of each equivalence, at the first and the last undefined byte and at a defined one. -/
theorem witness_StepHaltsExactlyOnTheUndefinedBytes :
    memRead (machine 0x00 0x00 0x00 0x00 0x0000 [0x02] []).mem 0x0000 ∈ Claims.undefinedBytes ∧
    memRead (machine 0x00 0x00 0x00 0x00 0xFFFF [0xFF] []).mem 0xFFFF ∈ Claims.undefinedBytes ∧
    memRead sample.mem sample.pc ∉ Claims.undefinedBytes := by
  repeat' apply And.intro
  all_goals decide

/-- O14. -/
theorem witness_PcMovesByTheLengthOfTheOpcodeAtPc : step sample = .next sampleNext ∧ sampleNext.pc = 0x0001 :=
  ⟨sample_step, rfl⟩

/-- O15. -/
theorem witness_ExecutionDoesNotReadPc :
    exec (.ldaImm 0x80) sample = .next sampleNext := eq_next (by decide)

/-- O16: for each clause an instruction it speaks of, and for the excluded tags an instruction that does change the
register or flag. -/
theorem witness_ExecCompletesAndKeepsItsFrame :
    (Instr.tag (.ldxImm 0x00) ∉ [Tag.lda, .adc]) ∧ (Instr.tag (.ldaImm 0x00) ∉ [Tag.ldx, .dex]) ∧
    (Instr.tag .dexImp ∉ [Tag.ldy]) ∧ (Instr.tag (.ldaImm 0x00) ∉ [Tag.adc]) ∧
    (Instr.tag (.cmpImm 0x00) ∉ [Tag.lda, .ldx, .ldy, .adc, .dex]) ∧
    (exec (.adcImm 0x01) sample = .next { sample with a := 0x81, p := 0xC0, pc := 0x0001 }) := by
  repeat' apply And.intro
  all_goals first | decide | exact eq_next (by decide)

/-- O33: each clause, the mask at bit 7. -/
theorem witness_EveryStatusWriteIsAMaskedReplace :
    (7 < 8) ∧ (0x82 : Byte).getLsbD 7 = true ∧ (0x82 : Byte).getLsbD 6 = false ∧
    Instr.tag (.adcImm 0x01) = .adc ∧
    exec (.adcImm 0x01) sample = .next { sample with a := 0x81, p := 0xC0, pc := 0x0001 } ∧
    Instr.tag .dexImp ∈ [Tag.lda, .ldx, .ldy, .dex] ∧
    exec .dexImp sample = .next { sample with x := 0x7F, p := 0x41, pc := 0x0000 } ∧
    Instr.tag .secImp ∉ [Tag.adc, .lda, .ldx, .ldy, .dex] ∧
    exec .secImp sample = .next { sample with pc := 0x0000 } := by
  repeat' apply And.intro
  all_goals first | decide | exact eq_next (by decide)

/-- O31: the clause about D: the host's write does set it, and 0x09 + 0x01 is 0x0A (ADC-20). -/
theorem witness_FlagInstructionsChangeNoFlag :
    let s := setWithMask 0x08 0x08 { State.reset with a := 0x09 }
    s.flag .d = true ∧ (executeInstruction defaultConfig .adc (.immediate 0x01) s).a = 0x0A ∧
    (executeInstruction defaultConfig .adc (.immediate 0x01) s).p = 0x08 := by decide

/-- O34: ADC sets C and V, and each later tag follows. -/
theorem witness_CarryAndOverflowSurviveALoad :
    let t : State := { State.reset with a := 0x7F, p := 0x41, pc := 0x0002 }
    Instr.tag (.adcImm 0xFF) = .adc ∧
    exec (.adcImm 0xFF) { State.reset with a := 0x80 } = .next t ∧
    (Instr.tag (.ldaImm 0x00), Reg.a) ∈ [(Tag.lda, Reg.a), (.ldx, .x), (.ldy, .y), (.dex, .x)] ∧
    exec (.ldaImm 0x00) t = .next { t with a := 0x00, p := 0x43, pc := 0x0004 } ∧
    (Instr.tag (.ldyZp 0x80), Reg.y) ∈ [(Tag.lda, Reg.a), (.ldx, .x), (.ldy, .y), (.dex, .x)] ∧
    exec (.ldyZp 0x80) t = .next { t with y := 0x00, p := 0x43, pc := 0x0004 } ∧
    (Instr.tag (.ldxImm 0x80), Reg.x) ∈ [(Tag.lda, Reg.a), (.ldx, .x), (.ldy, .y), (.dex, .x)] ∧
    exec (.ldxImm 0x80) t = .next { t with x := 0x80, p := 0xC1, pc := 0x0004 } ∧
    (Instr.tag .dexImp, Reg.x) ∈ [(Tag.lda, Reg.a), (.ldx, .x), (.ldy, .y), (.dex, .x)] ∧
    exec .dexImp t = .next { t with x := 0xFF, p := 0xC1, pc := 0x0003 } := by
  repeat' apply And.intro
  all_goals first | decide | exact eq_next (by decide)

/-- O37: the clause without carry-in, on a sum that wraps to 0. -/
theorem witness_CarryIsSetIffTheUnsignedSumWraps :
    let s : State := { State.reset with a := 0xFF }
    s.flag .c = false ∧ (addWithCarryUnder .chip 0x01 s).flag .c = true := by decide

/-- O39: C differs, V differs, and neither. -/
theorem witness_FlagRulesDifferInExactlyTheListedCases :
    let s : State := { State.reset with p := 0x01 }
    (addWithCarryUnder .chip 0xFF s).flag .c ≠ (addWithCarryUnder .sourceLiteral 0xFF s).flag .c ∧
    (addWithCarryUnder .chip 0x7F s).flag .v ≠ (addWithCarryUnder .sourceLiteral 0x7F s).flag .v ∧
    (addWithCarryUnder .chip 0x00 { s with a := 0x7F }).flag .v ≠
      (addWithCarryUnder .sourceLiteral 0x00 { s with a := 0x7F }).flag .v ∧
    addWithCarryUnder .chip 0x7E s = addWithCarryUnder .sourceLiteral 0x7E s ∧
    (StatusBit.z ≠ .c ∧ StatusBit.z ≠ .v) := by
  repeat' apply And.intro
  all_goals decide

/-- O40: each corner, in each register. -/
theorem witness_DecrementWrapsModulo256InEveryRegister :
    let s : State := { State.reset with a := 0x00, x := 0x80, y := 0x01 }
    readReg .a s = 0x00 ∧ readReg .x s = 0x80 ∧ readReg .y s = 0x01 ∧ (Reg.y ≠ Reg.x) ∧
    (StatusBit.c ≠ .z ∧ StatusBit.c ≠ .n) ∧ decrement .y s = { s with y := 0x00, p := 0x02 } := by
  repeat' apply And.intro
  all_goals decide

/-- O44: each clause. -/
theorem witness_EveryOtherPairIsANoOp :
    Tag.sta ∉ Claims.implementedTags ∧ Tag.ldy ∈ [Tag.adc, .lda, .ldx, .ldy] ∧ Operand.implied = .implied ∧
    Tag.dex = .dex ∧ Operand.address 0xFFFF ≠ .implied ∧ Operand.immediate 0x00 ≠ .implied := by
  repeat' apply And.intro
  all_goals decide

/-- O45: a run that halts after one instruction with the least fuel, and a state without an entry at PC. -/
theorem witness_ARunEndsAtAnUndefinedByteAndStaysThere :
    let s := machine 0x00 0x00 0x00 0x00 0xFFFF [0xCA, 0x02] []
    let t : State := { s with x := 0xFF, p := 0x80, pc := 0x0000 }
    (run defaultConfig 2 s = .halted 1 t ∧ 1 < 2) ∧
    (Claims.afterSteps defaultConfig 1 s = some t ∧ defaultConfig.opcodeTable (memRead t.mem t.pc) = none) := by decide

/-- O47: two bytes 0x00 across the top of memory before an undefined one, and a table without an entry for 0x00. -/
theorem witness_ZeroFilledMemoryNeverHalts :
    let s := machine 0x01 0x00 0x00 0xFF 0xFFFF [0x00, 0x00, 0x02] []
    (∀ j : Nat, j < 2 → Claims.byteAt s (s.pc.toNat + j) = 0x00) ∧ memRead s.mem s.pc = 0x00 ∧
    ({ defaultConfig with opcodeTable := fun _ => none } : Config State).opcodeTable 0x00 = none := by
  refine ⟨by decide, by decide, rfl⟩

/-- O48: a program of two bytes across the top of memory: its last byte, and the first and the last byte after it. -/
theorem witness_BootPlacesTheProgramAtPc :
    Memory.wf sample.mem = true ∧ ([0xA2, 0x02] : List Byte).length ≤ 65536 ∧
    (1 < ([0xA2, 0x02] : List Byte).length) ∧ (([0xA2, 0x02] : List Byte).length ≤ 2 ∧ 65535 < 65536) ∧
    Claims.byteAt (boot 0xFFFF [0xA2, 0x02] sample) (65535 + 1) = 0x02 := by
  repeat' apply And.intro
  all_goals decide

/-- O49: words of 8, 16 and 24 bits, the last placed across the top of memory. -/
theorem witness_AnInstructionPlacedAtPcIsTheOneTheNextStepRuns :
    Memory.wf sample.mem = true ∧ decodeTableWord 8 0xEA = some .nopImp ∧
    decodeTableWord 16 0xFFB1 = some (.ldaIzy 0xFF) ∧ decodeTableWord 24 0x12348E = some (.stxAbs 0x34 0x12) ∧
    step (sample.withFetchWord 24 0x12348E) = .next { sample.withFetchWord 24 0x12348E with pc := 0x0002 } := by
  repeat' apply And.intro
  all_goals first | decide | exact eq_next (by decide)

end Sys2Proof.Tests
end

-- The engine refinement of 00_scope.md (O13): the bytes at PC are the encoding of the instruction fetched there.
section

namespace Sys2Proof

/-- The instruction a cell makes when the two bytes after its opcode byte are `b0` and `b1`; a cell of fewer operand
bytes does not look at the rest (30_encoding.md R48). -/
def Cell.instr (b0 b1 : Byte) : Cell → Option Instr
  | .undefined => none
  | .f1 i => some i
  | .f2 make => some (make b0)
  | .f3 make => some (make b0 b1)

/-- Every cell of the map makes instructions of the opcode byte it stands at, seen at operand bytes 0x00 (R67). -/
theorem opcode_of_instr_zero : ∀ op : Byte, ∀ i ∈ (opcodeCell op).instr 0 0, i.opcode = op := by decide +kernel

/-- A byte at which a cell makes an instruction is the opcode byte of some instruction. -/
theorem exists_opcode_of_instr {op b0 b1 : Byte} {i : Instr} (h : (opcodeCell op).instr b0 b1 = some i) :
    ∃ j : Instr, j.opcode = op := by
  have hzero := opcode_of_instr_zero op
  generalize opcodeCell op = cell at h hzero
  cases cell with
  | undefined => cases h
  | f1 j => exact ⟨j, hzero j rfl⟩
  | f2 make => exact ⟨make 0, hzero _ rfl⟩
  | f3 make => exact ⟨make 0 0, hzero _ rfl⟩

/-- The cell at an instruction's opcode byte makes, of any operand bytes, an instruction encoded as that opcode byte
and its `EXTRA(mode)` operand bytes. -/
theorem exists_instr_at_opcode (j : Instr) (b0 b1 : Byte) :
    ∃ i, (opcodeCell j.opcode).instr b0 b1 = some i ∧ encode i = j.opcode :: [b0, b1].take (extraBytes i.mode) := by
  cases j <;> simp only [Instr.opcode] <;> exact ⟨_, rfl, rfl⟩

/-- What a cell of the map makes of bytes is the instruction those bytes encode (R48, R66). -/
theorem encode_of_instr {op b0 b1 : Byte} {i : Instr} (h : (opcodeCell op).instr b0 b1 = some i) :
    encode i = op :: [b0, b1].take (extraBytes i.mode) := by
  obtain ⟨j, rfl⟩ := exists_opcode_of_instr h
  obtain ⟨i', hi', henc⟩ := exists_instr_at_opcode j b0 b1
  obtain rfl : i' = i := Option.some.inj (hi'.symm.trans h)
  exact henc

/-- T6502 has an instruction's own tag and mode at its opcode byte (R67). -/
theorem t6502_opcode (i : Instr) : t6502 i.opcode = some (i.tag, i.mode) := by
  rw [← opcodeCell_entry_eq_t6502]
  cases i <;> simp only [Instr.opcode] <;> rfl

namespace Machine

/-- A fetch makes the instruction of the cell at PC from the two bytes after it (40_cycle.md R73, R74). -/
theorem fetchDecode_eq_instr (s : State) : fetchDecode s =
    (opcodeCell (memRead s.mem s.pc)).instr (memRead s.mem (s.pc + 1)) (memRead s.mem (s.pc + 1 + 1)) := by
  rw [fetchDecode_eq]
  cases opcodeCell (memRead s.mem s.pc) <;> rfl

/-- A slice of `EXTRA(mode)` bytes is the front of the two bytes at its address (20_memory.md R36). -/
theorem memReadSlice_extraBytes (m : Memory) (a : Word) (mode : Mode) :
    memReadSlice m a (extraBytes mode) = [memRead m a, memRead m (a + 1)].take (extraBytes mode) := by
  cases mode <;> rfl

/-- The instruction fetched at PC is the one that the bytes from PC on encode (R73, R74). -/
theorem encode_of_fetchDecode {s : State} {i : Instr} (h : fetchDecode s = some i) :
    encode i = memRead s.mem s.pc :: memReadSlice s.mem (s.pc + 1) (extraBytes i.mode) := by
  rw [fetchDecode_eq_instr] at h
  rw [memReadSlice_extraBytes]
  exact encode_of_instr h

/-- The step halts where nothing is fetched (R73, R79). -/
theorem step_of_fetchDecode_eq_none {s : State} (h : fetchDecode s = none) : step s = .fault .halted := by
  simp only [step, h]

/-- Otherwise it is `exec` of the instruction fetched at PC. -/
theorem step_of_fetchDecode_eq_some {s : State} {i : Instr} (h : fetchDecode s = some i) : step s = exec i s := by
  simp only [step, h]

/-- The engine at the defaults halts, and leaves the state as it is, where nothing is fetched (R73, R79). -/
theorem engineStep_of_fetchDecode_eq_none {s : State} (h : fetchDecode s = none) :
    engineStep defaultConfig s = .halted s := by
  have hentry : defaultConfig.opcodeTable (memRead s.mem s.pc) = none := (fetchDecode_none_iff s).mp h
  simp only [engineStep, fetchNextAndDecode, hentry]

/-- Otherwise it resolves the operand of the instruction fetched at PC, moves PC past it and executes it (R74, R77,
R79). -/
theorem engineStep_of_fetchDecode_eq_some {s : State} {i : Instr} (h : fetchDecode s = some i) :
    engineStep defaultConfig s =
      .running (executeInstruction defaultConfig i.tag (resolve i.mode s i.operandBytes) (advancePc i.length s)) := by
  obtain ⟨hopcode, hbytes⟩ := List.cons.inj (encode_of_fetchDecode h)
  have hentry : defaultConfig.opcodeTable (memRead s.mem s.pc) = some (i.tag, i.mode) :=
    hopcode ▸ t6502_opcode i
  simp only [engineStep, fetchNextAndDecode, hentry]
  rw [hbytes]
  rfl

/-- Settles O13: the step and the engine read one opcode byte, so both halt or both run the instruction that the
bytes at PC encode. -/
theorem stepIsTheEngineAtItsDefaults : Obligations.StepIsTheEngineAtItsDefaults := by
  unfold Obligations.StepIsTheEngineAtItsDefaults
  intro s
  cases h : fetchDecode s with
  | none => rw [step_of_fetchDecode_eq_none h, engineStep_of_fetchDecode_eq_none h, StepOutcome.toResult]
  | some i => rw [step_of_fetchDecode_eq_some h, engineStep_of_fetchDecode_eq_some h, StepOutcome.toResult, exec_eq]

end Machine

end Sys2Proof
end

-- What a masked replace leaves alone, and what the dispatcher may write, field by field (10_state.md R19 to R28).
section

namespace Sys2Proof.Machine

/-- The flags of a load are none of bits 5 to 2 (10_state.md R23, 41_alu_primitives.md R84). -/
theorem mask_zn_and_reserved : (StatusBit.z.mask ||| StatusBit.n.mask) &&& 0x3C = 0 := by decide

/-- Nor are C and V, which ADC writes besides (R85). -/
theorem mask_cv_and_reserved : (StatusBit.c.mask ||| StatusBit.v.mask) &&& 0x3C = 0 := by decide

/-- Of two disjoint masks only one has a given bit. -/
theorem getLsbD_disjoint {m n : Byte} (h : m &&& n = 0) (k : Nat) : m.getLsbD k = false ∨ n.getLsbD k = false := by
  have hk := congrArg (BitVec.getLsbD · k) h
  simpa [← Bool.not_eq_true, imp_iff_not_or] using hk

/-- A masked replace leaves the bits outside its mask (10_state.md R28). -/
theorem maskedReplace_and_of_disjoint {mask keep : Byte} (h : mask &&& keep = 0) (new p : Byte) :
    maskedReplace mask new p &&& keep = p &&& keep := by
  apply BitVec.eq_of_getLsbD_eq
  intro k _
  simp only [BitVec.getLsbD_and, maskedReplace_getLsbD]
  rcases getLsbD_disjoint h k with hk | hk <;> simp [hk]

/-- Masked replaces under disjoint masks commute. -/
theorem maskedReplace_comm {m n : Byte} (h : m &&& n = 0) (a b p : Byte) :
    maskedReplace m a (maskedReplace n b p) = maskedReplace n b (maskedReplace m a p) := by
  apply BitVec.eq_of_getLsbD_eq
  intro k _
  simp only [maskedReplace_getLsbD]
  rcases getLsbD_disjoint h k with hk | hk <;> simp [hk]

/-- The tags that load a register are those of the loads and of DEX, and each of them loads one. -/
theorem exists_loaded_register_iff {tag : Tag} :
    (∃ r, (tag, r) ∈ [(Tag.lda, Reg.a), (.ldx, .x), (.ldy, .y), (.dex, .x)]) ↔
      tag ∈ [Tag.lda, .ldx, .ldy, .dex] := by
  simp [exists_or]

/-- P after an addition: C and V are replaced, then Z and N (R85). -/
theorem addWithCarryUnder_p (rule : FlagRule) (v : Byte) (s : State) :
    ∃ first second, (addWithCarryUnder rule v s).p = maskedReplace (StatusBit.z.mask ||| StatusBit.n.mask) second
      (maskedReplace (StatusBit.c.mask ||| StatusBit.v.mask) first s.p) :=
  ⟨_, _, rfl⟩

/-- No pair writes bits 5 to 2 of P (10_state.md R23). -/
theorem executeInstruction_reserved (cfg : Config State) (tag : Tag) (operand : Operand) (s : State) :
    (executeInstruction cfg tag operand s).p &&& 0x3C = s.p &&& 0x3C := by
  rcases executeInstruction_cases cfg tag operand s with h | ⟨r, v, -, h⟩ | ⟨v, -, h⟩
  · rw [h]
  · rw [h, loadWithFlags_p, maskedReplace_and_of_disjoint mask_zn_and_reserved]
  · obtain ⟨first, second, hp⟩ := addWithCarryUnder_p cfg.flagRule v s
    rw [h, hp, maskedReplace_and_of_disjoint mask_zn_and_reserved, maskedReplace_and_of_disjoint mask_cv_and_reserved]

/-- A pair whose tag is none of ADC, the loads and DEX changes nothing (40_cycle.md R77, R78). -/
theorem executeInstruction_of_not_mem {tag : Tag} (htag : tag ∉ [Tag.adc, .lda, .ldx, .ldy, .dex])
    (cfg : Config State) (operand : Operand) (s : State) : executeInstruction cfg tag operand s = s := by
  rcases executeInstruction_cases cfg tag operand s with h | ⟨r, v, hr, -⟩ | ⟨v, rfl, -⟩
  · exact h
  · exact absurd (List.mem_cons_of_mem _ (exists_loaded_register_iff.mp ⟨r, hr⟩)) htag
  · simp at htag

/-- A is written by LDA and ADC only (10_state.md R19). -/
theorem executeInstruction_a {tag : Tag} (htag : tag ∉ [Tag.lda, .adc])
    (cfg : Config State) (operand : Operand) (s : State) : (executeInstruction cfg tag operand s).a = s.a := by
  rcases executeInstruction_cases cfg tag operand s with h | ⟨r, v, hr, h⟩ | ⟨v, rfl, -⟩
  · rw [h]
  · rw [h, loadWithFlags_a, if_neg]
    rintro rfl
    have hlda : tag = .lda := by simpa using hr
    simp [hlda] at htag
  · simp at htag

/-- X is written by LDX and DEX only (R20). -/
theorem executeInstruction_x {tag : Tag} (htag : tag ∉ [Tag.ldx, .dex])
    (cfg : Config State) (operand : Operand) (s : State) : (executeInstruction cfg tag operand s).x = s.x := by
  rcases executeInstruction_cases cfg tag operand s with h | ⟨r, v, hr, h⟩ | ⟨v, -, h⟩
  · rw [h]
  · rw [h, loadWithFlags_x, if_neg]
    rintro rfl
    exact htag (by simpa using hr)
  · rw [h, addWithCarryUnder_x]

/-- Y is written by LDY only (R21). -/
theorem executeInstruction_y {tag : Tag} (htag : tag ∉ [Tag.ldy])
    (cfg : Config State) (operand : Operand) (s : State) : (executeInstruction cfg tag operand s).y = s.y := by
  rcases executeInstruction_cases cfg tag operand s with h | ⟨r, v, hr, h⟩ | ⟨v, -, h⟩
  · rw [h]
  · rw [h, loadWithFlags_y, if_neg]
    rintro rfl
    exact htag (by simpa using hr)
  · rw [h, addWithCarryUnder_y]

/-- Every pair but ADC's writes no bit of P but Z and N (R24, R26, R84). -/
theorem executeInstruction_flag {tag : Tag} (htag : tag ≠ .adc) {bit : StatusBit} (hz : bit ≠ .z) (hn : bit ≠ .n)
    (cfg : Config State) (operand : Operand) (s : State) :
    (executeInstruction cfg tag operand s).flag bit = s.flag bit := by
  rcases executeInstruction_cases cfg tag operand s with h | ⟨r, v, -, h⟩ | ⟨v, hadc, -⟩
  · rw [h]
  · rw [h, loadWithFlags_flag]
    cases bit <;> simp_all
  · exact absurd hadc htag

end Sys2Proof.Machine
end

-- What `exec` does, by tag: an instruction of a tag with semantics never takes the fallback.
section

namespace Sys2Proof

/-- The encoding of an instruction has the instruction's length (30_encoding.md R48). -/
theorem encode_length (i : Instr) : (encode i).length = i.length := by
  rw [encode, List.length_cons, operandBytes_length, Instr.length, Nat.add_comm]

namespace Machine

/-- The table gives a tag with semantics only modes whose operands its case takes, so the dispatcher has a case for
exactly the instructions of these tags (30_encoding.md R67, R69; 40_cycle.md R77). -/
theorem hasSemantics_resolve (i : Instr) (s : State) :
    hasSemantics i.tag (resolve i.mode s i.operandBytes) = decide (i.tag ∈ Claims.implementedTags) := by
  cases i <;> rfl

/-- With an operand, an instruction with a value runs on that value (43_loads.md R95). -/
theorem withValue_of_ne_implied {operand : Operand} (h : operand ≠ .implied) (tag : Tag)
    (f : Byte → State → State) (s : State) : ∃ v, withValue tag f operand s = f v s := by
  cases operand with
  | immediate v => exact ⟨v, rfl⟩
  | address a => exact ⟨memRead s.mem a, rfl⟩
  | implied => exact absurd rfl h

/-- The dispatcher's cases for the loads and DEX (R77). -/
theorem executeInstruction_of_load {tag : Tag} {r : Reg} {operand : Operand}
    (hload : (tag, r) ∈ [(Tag.lda, Reg.a), (.ldx, .x), (.ldy, .y), (.dex, .x)])
    (hsem : hasSemantics tag operand = true) (cfg : Config State) (s : State) :
    ∃ v, executeInstruction cfg tag operand s = loadWithFlags r v s := by
  simp only [List.mem_cons, Prod.mk.injEq, List.not_mem_nil, or_false] at hload
  rcases hload with ⟨rfl, rfl⟩ | ⟨rfl, rfl⟩ | ⟨rfl, rfl⟩ | ⟨rfl, rfl⟩
  · exact withValue_of_ne_implied (bne_iff_ne.mp hsem) .lda (loadWithFlags .a) s
  · exact withValue_of_ne_implied (bne_iff_ne.mp hsem) .ldx (loadWithFlags .x) s
  · exact withValue_of_ne_implied (bne_iff_ne.mp hsem) .ldy (loadWithFlags .y) s
  · obtain rfl : operand = .implied := beq_iff_eq.mp hsem
    exact ⟨s.x - 0x01, rfl⟩

/-- The dispatcher's cases for ADC (R77). -/
theorem executeInstruction_of_adc {operand : Operand} (hsem : hasSemantics .adc operand = true)
    (cfg : Config State) (s : State) :
    ∃ v, executeInstruction cfg .adc operand s = addWithCarryUnder cfg.flagRule v s :=
  withValue_of_ne_implied (bne_iff_ne.mp hsem) .adc (addWithCarryUnder cfg.flagRule) s

/-- A load or DEX puts some value into its register, with flags, after the PC advance (43_loads.md, 44_dex.md). -/
theorem exec_of_load {i : Instr} {r : Reg}
    (hload : (i.tag, r) ∈ [(Tag.lda, Reg.a), (.ldx, .x), (.ldy, .y), (.dex, .x)]) (s : State) :
    ∃ v, exec i s = .next (loadWithFlags r v (advancePc i.length s)) := by
  have hsem : hasSemantics i.tag (resolve i.mode s i.operandBytes) = true := by
    have hsub : ∀ tag ∈ [Tag.lda, .ldx, .ldy, .dex], tag ∈ Claims.implementedTags := by decide
    rw [hasSemantics_resolve]
    exact decide_eq_true (hsub i.tag (exists_loaded_register_iff.mp ⟨r, hload⟩))
  obtain ⟨v, hv⟩ := executeInstruction_of_load hload hsem defaultConfig (advancePc i.length s)
  exact ⟨v, by rw [exec_eq, hv]⟩

/-- ADC adds some value with carry, after the PC advance (42_adc.md R94). -/
theorem exec_of_adc {i : Instr} (hadc : i.tag = .adc) (s : State) :
    ∃ v, exec i s = .next (addWithCarry v (advancePc i.length s)) := by
  have hsem := hasSemantics_resolve i s
  rw [hadc] at hsem
  obtain ⟨v, hv⟩ := executeInstruction_of_adc hsem defaultConfig (advancePc i.length s)
  exact ⟨v, by rw [exec_eq, hadc, hv]; rfl⟩

/-- Every other instruction only moves PC (45_nop.md R99, 46_unimplemented.md). -/
theorem exec_of_not_mem {i : Instr} (htag : i.tag ∉ [Tag.adc, .lda, .ldx, .ldy, .dex]) (s : State) :
    exec i s = .next (advancePc i.length s) := by
  rw [exec_eq, executeInstruction_of_not_mem htag]

/-- What a step that goes on has done: it has executed the instruction fetched at PC after the PC advance (R74, R79). -/
theorem fetched_of_step_eq_next {s t : State} (h : step s = .next t) :
    ∃ i, fetchDecode s = some i ∧
      t = executeInstruction defaultConfig i.tag (resolve i.mode s i.operandBytes) (advancePc i.length s) := by
  cases hi : fetchDecode s with
  | none => rw [step_of_fetchDecode_eq_none hi] at h; cases h
  | some i =>
    rw [step_of_fetchDecode_eq_some hi, exec_eq] at h
    cases h
    exact ⟨i, rfl, rfl⟩

/-- The opcode table has the tag and mode of the instruction fetched at PC at the byte there (R67, R73). -/
theorem t6502_of_fetchDecode {s : State} {i : Instr} (h : fetchDecode s = some i) :
    t6502 (memRead s.mem s.pc) = some (i.tag, i.mode) := by
  obtain ⟨hopcode, -⟩ := List.cons.inj (encode_of_fetchDecode h)
  rw [← hopcode, t6502_opcode]

end Machine

end Sys2Proof
end

-- The invariant of 10_state.md section 3 at reset and under every step (O1, O2, O3), and PC under a step (O14).
section

namespace Sys2Proof.Machine

/-- Settles O3: no pair of the dispatcher writes memory or bits 5 to 2 of P, and neither does the PC advance. -/
theorem everyStepKeepsTheInvariant : Obligations.EveryStepKeepsTheInvariant := by
  unfold Obligations.EveryStepKeepsTheInvariant
  rintro s t ⟨hmem, hreserved⟩ hstep
  obtain ⟨i, -, rfl⟩ := fetched_of_step_eq_next hstep
  constructor
  · rwa [executeInstruction_mem]
  · rwa [reservedStatus, executeInstruction_reserved]

/-- Settles O1: reset is a literal state with an empty list of cells, which reads 0x00 everywhere. -/
theorem resetZeroesEveryRegisterAndByte : Obligations.ResetZeroesEveryRegisterAndByte := by
  unfold Obligations.ResetZeroesEveryRegisterAndByte
  refine ⟨rfl, rfl, rfl, rfl, rfl, fun bit => ?_, fun _ => rfl⟩
  cases bit <;> rfl

/-- Settles O2: the empty list is canonical and P is 0x00. -/
theorem resetMeetsTheInvariant : Obligations.ResetMeetsTheInvariant :=
  ⟨reset_wf, rfl⟩

/-- Settles O14: only the advance moves PC, by the length of the instruction whose table entry stands at PC. -/
theorem pcMovesByTheLengthOfTheOpcodeAtPc : Obligations.PcMovesByTheLengthOfTheOpcodeAtPc := by
  unfold Obligations.PcMovesByTheLengthOfTheOpcodeAtPc
  intro s t hstep
  obtain ⟨i, hi, rfl⟩ := fetched_of_step_eq_next hstep
  refine ⟨i.tag, i.mode, t6502_of_fetchDecode hi, ?_⟩
  rw [executeInstruction_pc, advancePc_pc, BitVec.toNat_add, BitVec.toNat_ofNat, Instr.length, Nat.add_mod_mod,
    Nat.add_assoc]

end Sys2Proof.Machine
end

-- The canonical form of memory: the host and the core together keep it (O4), and it is unique (O5).
section

namespace Sys2Proof.Machine

/-- A fetch leaves memory alone (40_cycle.md R74). -/
theorem fetchNextAndDecode_mem {cfg : Config State} {s t : State} {pair : Tag × Operand}
    (h : fetchNextAndDecode cfg s = some (pair, t)) : t.mem = s.mem := by
  unfold fetchNextAndDecode at h
  split at h
  · cases h
  · cases h
    rfl

/-- So does a step of the engine that goes on (R79, 20_memory.md R37). -/
theorem engineStep_running_mem {cfg : Config State} {s t : State} (h : engineStep cfg s = .running t) :
    t.mem = s.mem := by
  unfold engineStep at h
  split at h
  · cases h
  · next hfetch =>
    cases h
    rw [executeInstruction_mem, fetchNextAndDecode_mem hfetch]

/-- A step of the engine that halts leaves the state as it is (R73). -/
theorem engineStep_halted {cfg : Config State} {s t : State} (h : engineStep cfg s = .halted t) : t = s := by
  unfold engineStep at h
  split at h
  · cases h
    rfl
  · cases h

@[simp] theorem RunOutcome.afterOneMore_state (o : RunOutcome) : o.afterOneMore.state = o.state := by
  cases o <;> rfl

/-- A run leaves memory alone, under any fuel (R81). -/
theorem run_state_mem (cfg : Config State) (fuel : Nat) (s : State) : (run cfg fuel s).state.mem = s.mem := by
  induction fuel generalizing s with
  | zero => rfl
  | succ fuel ih =>
    unfold run
    cases h : engineStep cfg s with
    | halted t => exact congrArg State.mem (engineStep_halted h)
    | running t => simp only [RunOutcome.afterOneMore_state, ih, engineStep_running_mem h]

/-- Every action of the host keeps memory canonical: only a reset and a write to memory touch it
(70_reset_and_hazards.md R167). -/
theorem hostAct_wf (action : HostAction) {s : State} (h : Memory.wf s.mem = true) :
    Memory.wf (hostAct action s).mem = true := by
  cases action with
  | reset => exact reset_wf
  | writeMemory a v => exact memWrite_wf h
  | run fuel => rwa [hostAct, run_state_mem]
  | executeInstruction tag operand => rwa [hostAct, executeInstruction_mem]
  | fetchNextAndDecode =>
    simp only [hostAct]
    split
    · exact h
    · next hfetch => rwa [fetchNextAndDecode_mem hfetch]
  | _ => exact h

/-- Settles O4: every single action keeps the canonical form, so a list of them does. -/
theorem hostAndCoreTogetherKeepMemoryCanonical : Obligations.HostAndCoreTogetherKeepMemoryCanonical := by
  unfold Obligations.HostAndCoreTogetherKeepMemoryCanonical
  intro actions
  induction actions with
  | nil => exact fun _ h => h
  | cons action rest ih => exact fun s h => ih (hostAct action s) (hostAct_wf action h)

/-- A key that holds anything but the reset content is not below the lower bound of a canonical memory. -/
theorem Memory.le_of_lookup_ne {low k : Nat} {m : Memory} (hm : Memory.wfFrom low m = true)
    (hk : Memory.lookup m k ≠ unwrittenByte) : low ≤ k :=
  Nat.le_of_not_lt fun hlt => hk (Memory.lookup_below hm hlt)

/-- The first key of a canonical memory is itself a lower bound. -/
theorem Memory.wfFrom_head {low a : Nat} {b : Byte} {rest : Memory} (hm : Memory.wfFrom low ((a, b) :: rest) = true) :
    Memory.wfFrom a ((a, b) :: rest) = true :=
  Memory.wfFrom_cons_iff.mpr ⟨le_rfl, (Memory.wfFrom_cons_iff.mp hm).2⟩

/-- A memory lists its own first cell. -/
theorem Memory.lookup_head (a : Nat) (b : Byte) (rest : Memory) : Memory.lookup ((a, b) :: rest) a = b :=
  if_pos rfl

/-- Behind the first cell of a canonical memory every other key reads as in the whole. -/
theorem Memory.lookup_tail {a : Nat} {b : Byte} {rest : Memory} (hrest : Memory.wfFrom (a + 1) rest = true) (k : Nat) :
    Memory.lookup rest k = if k = a then unwrittenByte else Memory.lookup ((a, b) :: rest) k := by
  split
  · next hk => exact Memory.lookup_below hrest (by omega)
  · next hk => exact (if_neg hk).symm

/-- Canonical memories that read alike below 2^16 are the same list, by induction on both: their first keys bound each
other, and behind equal first cells the rests read alike again. -/
theorem Memory.eq_of_lookup_eq {low low' : Nat} {m n : Memory} (hm : Memory.wfFrom low m = true)
    (hn : Memory.wfFrom low' n = true) (h : ∀ k < 65536, Memory.lookup m k = Memory.lookup n k) : m = n := by
  induction m generalizing low low' n with
  | nil =>
    cases n with
    | nil => rfl
    | cons cell rest =>
      obtain ⟨a, b⟩ := cell
      obtain ⟨-, ha, hb, -⟩ := Memory.wfFrom_cons_iff.mp hn
      have heq := h a ha
      rw [Memory.lookup_head] at heq
      exact absurd heq.symm hb
  | cons cell rest ih =>
    obtain ⟨a, b⟩ := cell
    obtain ⟨-, ha, hb, hrest⟩ := Memory.wfFrom_cons_iff.mp hm
    have hab := h a ha
    rw [Memory.lookup_head] at hab
    cases n with
    | nil => exact absurd hab hb
    | cons cell' rest' =>
      obtain ⟨a', b'⟩ := cell'
      obtain ⟨-, ha', hb', hrest'⟩ := Memory.wfFrom_cons_iff.mp hn
      have hab' := h a' ha'
      rw [Memory.lookup_head] at hab'
      have hle : a' ≤ a := Memory.le_of_lookup_ne (Memory.wfFrom_head hn) (hab ▸ hb)
      have hge : a ≤ a' := Memory.le_of_lookup_ne (Memory.wfFrom_head hm) (hab' ▸ hb')
      obtain rfl : a = a' := Nat.le_antisymm hge hle
      rw [Memory.lookup_head] at hab
      subst hab
      have htail : rest = rest' := ih hrest hrest' fun k hk => by
        rw [Memory.lookup_tail hrest, Memory.lookup_tail hrest', h k hk]
      rw [htail]

/-- Settles O5: every key below 2^16 is an address. -/
theorem canonicalMemoriesThatReadAlikeAreEqual : Obligations.CanonicalMemoriesThatReadAlikeAreEqual := by
  unfold Obligations.CanonicalMemoriesThatReadAlikeAreEqual
  intro m n hm hn h
  refine Memory.eq_of_lookup_eq hm hn fun k hk => ?_
  simpa [memRead, Nat.mod_eq_of_lt hk] using h (BitVec.ofNat 16 k)

end Sys2Proof.Machine
end

-- The registers and flags an instruction writes (O16), the masks it writes P under (O33), and what a load after an
-- ADC keeps of it (O34).
section

namespace Sys2Proof.Machine

/-- Settles O16: `exec` always answers, and each clause is the frame of the dispatcher in that field. -/
theorem execCompletesAndKeepsItsFrame : Obligations.ExecCompletesAndKeepsItsFrame := by
  unfold Obligations.ExecCompletesAndKeepsItsFrame
  intro i s
  refine ⟨_, exec_eq i s, fun a => ?memory, ?pc, ?reserved, fun htag => ?a, fun htag => ?x, fun htag => ?y,
    fun htag => ?carryOverflow, fun htag => ?zeroNegative⟩
  case memory => rw [executeInstruction_mem, advancePc_mem]
  case pc => rw [executeInstruction_pc, advancePc_pc, encode_length]
  case reserved => rw [executeInstruction_reserved, advancePc_p]
  case a => rw [executeInstruction_a htag, advancePc_a]
  case x => rw [executeInstruction_x htag, advancePc_x]
  case y => rw [executeInstruction_y htag, advancePc_y]
  case carryOverflow =>
    have hadc : i.tag ≠ .adc := by simpa using htag
    constructor <;> rw [executeInstruction_flag hadc (by decide) (by decide), advancePc_flag]
  case zeroNegative =>
    have hnone : i.tag ∉ [Tag.adc, .lda, .ldx, .ldy, .dex] := by simp_all
    rw [executeInstruction_of_not_mem hnone]
    exact ⟨rfl, rfl⟩

/-- Settles O33: the bits of a masked replace, and P after each of the three things an instruction can do. -/
theorem everyStatusWriteIsAMaskedReplace : Obligations.EveryStatusWriteIsAMaskedReplace := by
  unfold Obligations.EveryStatusWriteIsAMaskedReplace
  refine ⟨fun mask new s => ⟨rfl, fun k _ => maskedReplace_getLsbD mask new s.p k⟩, fun i s t hexec => ?_⟩
  refine ⟨fun hadc => ?_, fun hload => ?_, fun hnone => ?_⟩
  · obtain ⟨v, hv⟩ := exec_of_adc hadc s
    cases hv.symm.trans hexec
    exact addWithCarryUnder_p flagRule v _
  · obtain ⟨r, hr⟩ := exists_loaded_register_iff.mpr hload
    obtain ⟨v, hv⟩ := exec_of_load hr s
    cases hv.symm.trans hexec
    exact ⟨_, loadWithFlags_p r v _⟩
  · cases (exec_of_not_mem hnone s).symm.trans hexec
    rfl

/-- Settles O34: a load with flags writes Z and N from its value, and no other bit of P. -/
theorem carryAndOverflowSurviveALoad : Obligations.CarryAndOverflowSurviveALoad := by
  unfold Obligations.CarryAndOverflowSurviveALoad
  intro i j r s t u _ hload _ hexec
  obtain ⟨v, hv⟩ := exec_of_load hload t
  cases hv.symm.trans hexec
  have hreg : readReg r (loadWithFlags r v (advancePc j.length t)) = v := by
    rw [loadWithFlags_readReg, if_pos rfl]
  rw [hreg]
  simp only [loadWithFlags_flag, advancePc_flag, true_and]
  exact ⟨rfl, BitVec.msb_eq_getLsbD_last v⟩

end Sys2Proof.Machine
end

-- Bits 5 to 2 of P have no influence (O41): replacing them commutes with everything a step does.
section

namespace Sys2Proof.Machine

open Sys2Proof.Claims

/-- Replacing bits 5 to 2 is a masked replace (10_state.md R28). -/
theorem withReserved_eq_setFlags (q : Byte) (s : State) : withReserved q s = setFlags 0x3C q s := rfl

/-- It keeps the carry, the one bit an instruction reads (41_alu_primitives.md R90). -/
theorem withReserved_flag_c (q : Byte) (s : State) : (withReserved q s).flag .c = s.flag .c :=
  maskedReplace_getLsbD 0x3C q s.p 0

theorem setFlags_withReserved {mask : Byte} (h : mask &&& 0x3C = 0) (new q : Byte) (s : State) :
    setFlags mask new (withReserved q s) = withReserved q (setFlags mask new s) := by
  rw [withReserved_eq_setFlags, withReserved_eq_setFlags]
  simp only [setFlags, maskedReplace_comm h]

theorem writeReg_withReserved (r : Reg) (v q : Byte) (s : State) :
    writeReg r v (withReserved q s) = withReserved q (writeReg r v s) := by cases r <;> rfl

theorem loadWithFlags_withReserved (r : Reg) (v q : Byte) (s : State) :
    loadWithFlags r v (withReserved q s) = withReserved q (loadWithFlags r v s) := by
  simp only [loadWithFlags, writeReg_withReserved, setFlags_withReserved mask_zn_and_reserved]

theorem addWithCarryUnder_withReserved (rule : FlagRule) (v q : Byte) (s : State) :
    addWithCarryUnder rule v (withReserved q s) = withReserved q (addWithCarryUnder rule v s) := by
  have ha : (withReserved q s).a = s.a := rfl
  simp only [addWithCarryUnder, withReserved_flag_c, ha, setFlags_withReserved mask_cv_and_reserved,
    loadWithFlags_withReserved]

/-- What commutes with `f` at every value commutes with it at the operand's. -/
theorem withValue_withReserved {f : Byte → State → State} {q : Byte}
    (hf : ∀ v s, f v (withReserved q s) = withReserved q (f v s)) (tag : Tag) (operand : Operand) (s : State) :
    withValue tag f operand (withReserved q s) = withReserved q (withValue tag f operand s) := by
  cases operand with
  | immediate v => exact hf v s
  | address a => exact hf (memRead s.mem a) s
  | implied => rfl

theorem executeInstruction_withReserved (cfg : Config State) (tag : Tag) (operand : Operand) (q : Byte) (s : State) :
    executeInstruction cfg tag operand (withReserved q s) = withReserved q (executeInstruction cfg tag operand s) := by
  cases tag with
  | adc => exact withValue_withReserved (addWithCarryUnder_withReserved cfg.flagRule · q ·) .adc operand s
  | lda => exact withValue_withReserved (loadWithFlags_withReserved .a · q ·) .lda operand s
  | ldx => exact withValue_withReserved (loadWithFlags_withReserved .x · q ·) .ldx operand s
  | ldy => exact withValue_withReserved (loadWithFlags_withReserved .y · q ·) .ldy operand s
  | dex =>
    cases operand with
    | implied => exact loadWithFlags_withReserved .x (s.x - 0x01) q s
    | _ => rfl
  | _ => rfl

/-- The resolver does not read P (30_encoding.md R51). -/
theorem resolve_withReserved (mode : Mode) (q : Byte) (s : State) (bs : List Byte) :
    resolve mode (withReserved q s) bs = resolve mode s bs := by cases mode <;> rfl

theorem exec_withReserved (i : Instr) (q : Byte) (s : State) :
    exec i (withReserved q s) = mapNext (withReserved q) (exec i s) := by
  rw [exec_eq, exec_eq, mapNext, resolve_withReserved, ← executeInstruction_withReserved]
  rfl

/-- Settles O41: the fetch does not read P, and `exec` commutes with the replace. -/
theorem bitsFiveToTwoOfPHaveNoInfluence : Obligations.BitsFiveToTwoOfPHaveNoInfluence := by
  unfold Obligations.BitsFiveToTwoOfPHaveNoInfluence
  intro q s
  have hfetch : fetchDecode (withReserved q s) = fetchDecode s := rfl
  cases h : fetchDecode s with
  | none => rw [step_of_fetchDecode_eq_none h, step_of_fetchDecode_eq_none (hfetch.trans h), mapNext]
  | some i => rw [step_of_fetchDecode_eq_some h, step_of_fetchDecode_eq_some (hfetch.trans h), exec_withReserved]

end Sys2Proof.Machine
end

-- What is read after a write of the host (20_memory.md R35 to R37): of one byte, of a slice, and by the next fetch.
section

namespace Sys2Proof

/-- What a decoder makes of an opcode byte with two more bytes behind it is what the table's cell makes of the two
(30_encoding.md R48, R66). -/
theorem instr_of_decode {op b0 b1 : Byte} {tail rest : List Byte} {i : Instr}
    (h : decode (op :: b0 :: b1 :: tail) = .ok (i, rest)) : (opcodeCell op).instr b0 b1 = some i := by
  rw [decode] at h
  generalize opcodeCell op = cell at h ⊢
  cases cell with
  | undefined => cases h
  | f1 j => cases h; rfl
  | f2 make => cases h; rfl
  | f3 make => cases h; rfl

/-- A table word that stands for an instruction decodes to it as bytes. -/
theorem exists_decode_of_decodeTableWord {nbits w : Nat} {i : Instr} (h : decodeTableWord nbits w = some i) :
    ∃ rest, decode (tableBytes nbits w) = .ok (i, rest) := by
  unfold decodeTableWord at h
  split at h
  · next j rest hdecode =>
    cases h
    exact ⟨rest, hdecode⟩
  · cases h

namespace Machine

/-- The host's write is read back at its own address (R37). -/
theorem memRead_memWrite_same {s : State} (h : Memory.wf s.mem = true) (a : Word) (v : Byte) :
    memRead (memWrite a v s).mem a = v :=
  Memory.lookup_store_same h

/-- It leaves every other address, whatever the form of the memory (R37). -/
theorem memRead_memWrite_other {a b : Word} (h : b ≠ a) (v : Byte) (s : State) :
    memRead (memWrite a v s).mem b = memRead s.mem b :=
  Memory.lookup_store_other fun hkey => h (BitVec.eq_of_toNat_eq hkey)

/-- Address `k + 1` from `a` on is address `k` from `a + 1` on. -/
theorem add_ofNat_succ (a : Word) (k : Nat) : a + BitVec.ofNat 16 (k + 1) = a + 1 + BitVec.ofNat 16 k := by
  rw [Nat.add_comm, BitVec.ofNat_add, BitVec.add_assoc]
  rfl

/-- Less than 2^16 addresses further on is another address. -/
theorem add_ofNat_ne_self (a : Word) {k : Nat} (hpos : 0 < k) (hk : k < 65536) : a + BitVec.ofNat 16 k ≠ a := by
  bv_omega

/-- Entry `k` of a slice is the byte at `a + k`, modulo 2^16 (R36). -/
theorem memReadSlice_getElem? (m : Memory) (a : Word) {n k : Nat} (h : k < n) :
    (memReadSlice m a n)[k]? = some (memRead m (a + BitVec.ofNat 16 k)) := by
  induction n generalizing a k with
  | zero => omega
  | succ n ih =>
    cases k with
    | zero => simp [memReadSlice]
    | succ k => rw [memReadSlice, List.getElem?_cons_succ, ih (a + 1) (by omega), add_ofNat_succ]

/-- The spec's address arithmetic over natural numbers, modulo 2^16, is that of words. -/
theorem byteAt_toNat_add (s : State) (a : Word) (k : Nat) :
    Claims.byteAt s (a.toNat + k) = memRead s.mem (a + BitVec.ofNat 16 k) := by
  rw [Claims.byteAt, BitVec.ofNat_add, BitVec.ofNat_toNat, BitVec.setWidth_eq]

/-- The host's writes of consecutive bytes leave every address they do not reach (R37). -/
theorem memRead_memWriteSlice_other {b : Word} (bs : List Byte) (a : Word) (s : State)
    (h : ∀ k < bs.length, b ≠ a + BitVec.ofNat 16 k) : memRead (memWriteSlice a bs s).mem b = memRead s.mem b := by
  induction bs generalizing a s with
  | nil => rfl
  | cons v rest ih =>
    have hrest : ∀ k < rest.length, b ≠ a + 1 + BitVec.ofNat 16 k := fun k hk =>
      add_ofNat_succ a k ▸ h (k + 1) (by simpa using hk)
    have hfirst : b ≠ a := by simpa using h 0 (by simp)
    rw [memWriteSlice, ih (a + 1) (memWrite a v s) hrest, memRead_memWrite_other hfirst]

/-- A slice of at most 2^16 bytes is read back as written: no later byte of it wraps onto an earlier one. -/
theorem memReadSlice_memWriteSlice (bs : List Byte) (a : Word) {s : State} (hwf : Memory.wf s.mem = true)
    (hlen : bs.length ≤ 65536) : memReadSlice (memWriteSlice a bs s).mem a bs.length = bs := by
  induction bs generalizing a s with
  | nil => rfl
  | cons v rest ih =>
    rw [List.length_cons] at hlen
    have hkept : ∀ k < rest.length, a ≠ a + 1 + BitVec.ofNat 16 k := fun k hk =>
      add_ofNat_succ a k ▸ (add_ofNat_ne_self a (by omega) (by omega)).symm
    rw [memWriteSlice, List.length_cons, memReadSlice, ih (a + 1) (memWrite_wf hwf) (by omega),
      memRead_memWriteSlice_other rest (a + 1) _ hkept, memRead_memWrite_same hwf]

/-- What the three bytes from PC on decode to is what a fetch answers; no instruction is longer (40_cycle.md R74). -/
theorem fetchDecode_of_decode {s : State} {i : Instr} {rest : List Byte}
    (h : decode (memReadSlice s.mem s.pc 3) = .ok (i, rest)) : fetchDecode s = some i := by
  rw [fetchDecode_eq_instr]
  exact instr_of_decode h

/-- The host's writes of consecutive bytes do not move PC. -/
@[simp] theorem memWriteSlice_pc (a : Word) (bs : List Byte) (s : State) : (memWriteSlice a bs s).pc = s.pc := by
  rw [memWriteSlice_frame]

/-- Placing a word at PC does not move PC (70_reset_and_hazards.md R166). -/
theorem withFetchWord_pc (s : State) (nbits w : Nat) : (s.withFetchWord nbits w).pc = s.pc :=
  memWriteSlice_pc s.pc (tableBytes nbits w) s

/-- The next fetch finds the instruction of a table word placed at PC. -/
theorem fetchDecode_withFetchWord {s : State} {nbits w : Nat} {i : Instr} (hwf : Memory.wf s.mem = true)
    (h : decodeTableWord nbits w = some i) : fetchDecode (s.withFetchWord nbits w) = some i := by
  obtain ⟨rest, hdecode⟩ := exists_decode_of_decodeTableWord h
  have hread : memReadSlice (s.withFetchWord nbits w).mem s.pc 3 = tableBytes nbits w :=
    memReadSlice_memWriteSlice (tableBytes nbits w) s.pc hwf (by simp [tableBytes])
  rw [← hread, ← withFetchWord_pc s nbits w] at hdecode
  exact fetchDecode_of_decode hdecode

/-- Settles O6: a store is read back and leaves every other key, and no pair of the dispatcher writes memory. -/
theorem onlyTheHostsWriteChangesMemory : Obligations.OnlyTheHostsWriteChangesMemory := by
  unfold Obligations.OnlyTheHostsWriteChangesMemory
  constructor
  · intro s a v hwf
    exact ⟨memRead_memWrite_same hwf a v, fun b hb => memRead_memWrite_other hb v s, rfl⟩
  · intro i s t hexec a
    rw [exec_eq] at hexec
    cases hexec
    rw [executeInstruction_mem, advancePc_mem]

/-- Settles O7: a slice walks on by one address for each byte, and the longest modes have two operand bytes. -/
theorem sliceReadsConsecutiveBytesModulo65536 : Obligations.SliceReadsConsecutiveBytesModulo65536 := by
  unfold Obligations.SliceReadsConsecutiveBytesModulo65536
  refine ⟨fun s a n => ⟨memReadSlice_length s.mem n a, fun k hk => ?byte⟩, fun _ _ => rfl, fun mode => ?longest⟩
  case byte => rw [memReadSlice_getElem? s.mem a hk, byteAt_toNat_add]
  case longest => cases mode <;> decide

/-- Settles O49: the three bytes placed at PC are read back by the next fetch, across the top of memory too. -/
theorem anInstructionPlacedAtPcIsTheOneTheNextStepRuns :
    Obligations.AnInstructionPlacedAtPcIsTheOneTheNextStepRuns := by
  unfold Obligations.AnInstructionPlacedAtPcIsTheOneTheNextStepRuns
  intro s nbits w i hwf hword
  exact ⟨step_of_fetchDecode_eq_some (fetchDecode_withFetchWord hwf hword), withFetchWord_pc s nbits w⟩

end Machine

end Sys2Proof
end

-- The decoder and the encoder are inverse to each other (O8, O9), and words of every family decode as they say (O10).
section

namespace Sys2Proof

/-- A cell makes an instruction of exactly the lists that begin with the operand bytes it makes it of (30_encoding.md
R48). -/
theorem Cell.make_eq_ok_iff {op : Byte} {cell : Cell} {bytes rest : List Byte} {i : Instr} :
    cell.make op bytes = .ok (i, rest) ↔ ∃ b0 b1 n,
      cell.instr b0 b1 = some i ∧ cell.operandCount = some n ∧ bytes = [b0, b1].take n ++ rest := by
  constructor
  · intro h
    unfold Cell.make at h
    split at h
    case h_1 => cases h
    case h_2 j _ => cases h; exact ⟨0, 0, 0, rfl, rfl, rfl⟩
    case h_3 make b0 _ => cases h; exact ⟨b0, 0, 1, rfl, rfl, rfl⟩
    case h_4 => cases h
    case h_5 make b0 b1 _ => cases h; exact ⟨b0, b1, 2, rfl, rfl, rfl⟩
    case h_6 => cases h
    case h_7 => cases h
  · rintro ⟨b0, b1, n, hinstr, hcount, rfl⟩
    cases cell with
    | undefined => cases hinstr
    | f1 j => cases hinstr; cases hcount; rfl
    | f2 make => cases hinstr; cases hcount; rfl
    | f3 make => cases hinstr; cases hcount; rfl

/-- The cell at an instruction's opcode byte makes the instruction of its own operand bytes (R67); missing bytes are
filled with 0x00, which the cell does not look at. -/
theorem instr_opcode (i : Instr) :
    (opcodeCell i.opcode).instr (i.operandBytes.getD 0 0) (i.operandBytes.getD 1 0) = some i := by
  cases i <;> simp only [Instr.opcode] <;> rfl

/-- The decoder answers an instruction and a rest for exactly one list: the instruction's encoding, then the rest (R48,
R66). -/
theorem decode_eq_ok_iff {bytes rest : List Byte} {i : Instr} :
    decode bytes = .ok (i, rest) ↔ bytes = encode i ++ rest := by
  constructor
  · intro h
    cases bytes with
    | nil => cases h
    | cons op tail =>
      obtain ⟨b0, b1, n, hinstr, hcount, rfl⟩ := Cell.make_eq_ok_iff.mp h
      have henc := encode_of_instr hinstr
      obtain ⟨rfl, -⟩ := List.cons.inj henc
      obtain rfl : extraBytes i.mode = n := Option.some.inj ((operandCount_opcode i).symm.trans hcount)
      rw [henc, List.cons_append]
  · rintro rfl
    have hinstr := instr_opcode i
    obtain ⟨-, hoperands⟩ := List.cons.inj (encode_of_instr hinstr)
    exact Cell.make_eq_ok_iff.mpr ⟨_, _, _, hinstr, operandCount_opcode i, congrArg (· ++ rest) hoperands⟩

/-- Settles O8: the list is the encoding followed by the rest. -/
theorem decodingAnEncodedInstructionGivesItBack : Obligations.DecodingAnEncodedInstructionGivesItBack := by
  unfold Obligations.DecodingAnEncodedInstructionGivesItBack
  exact fun _ _ => decode_eq_ok_iff.mpr rfl

/-- Settles O9: no other list decodes to the instruction and the rest. -/
theorem everyDecodedListIsTheEncodingOfItsInstruction :
    Obligations.EveryDecodedListIsTheEncodingOfItsInstruction := by
  unfold Obligations.EveryDecodedListIsTheEncodingOfItsInstruction
  exact fun _ _ _ => decode_eq_ok_iff.mp

/-- Settles O10: each word written out is the encoding of the instruction beside it, and 0x02 has no cell (R68). -/
theorem wordsWrittenOutFromTheTableDecodeAsTheySay : Obligations.WordsWrittenOutFromTheTableDecodeAsTheySay := by
  unfold Obligations.WordsWrittenOutFromTheTableDecodeAsTheySay
  simp only [decode_eq_ok_iff]
  repeat' apply And.intro
  all_goals rfl

end Sys2Proof
end

-- A step halts exactly on the undefined bytes (O12).
section

namespace Sys2Proof

/-- The opcode table has no entry for exactly the bytes R68 lists (30_encoding.md R67, R68). -/
theorem t6502_eq_none_iff : ∀ op : Byte, t6502 op = none ↔ op ∈ Claims.undefinedBytes := by decide +kernel

namespace Machine

/-- A step stops with the halt in exactly the halted states (40_cycle.md R73, R79). -/
theorem step_eq_halted_iff (s : State) : step s = .fault .halted ↔ Halted s := by
  rw [Halted, ← fetchDecode_none_iff]
  cases h : fetchDecode s with
  | none => simp only [step_of_fetchDecode_eq_none h]
  | some i => simp [step_of_fetchDecode_eq_some h, exec_eq]

/-- Every step is safe: in a state that is not halted it executes the instruction fetched, which completes (R79). -/
theorem safeStep (s : State) : SafeStep s := by
  cases h : fetchDecode s with
  | none =>
    have hhalt := step_of_fetchDecode_eq_none h
    exact .inr ⟨(step_eq_halted_iff s).mp hhalt, hhalt⟩
  | some i => exact .inl ⟨_, (step_of_fetchDecode_eq_some h).trans (exec_eq i s)⟩

/-- Settles O12: the halt is the absent table entry, which is the listed byte; otherwise `exec` answers. -/
theorem stepHaltsExactlyOnTheUndefinedBytes : Obligations.StepHaltsExactlyOnTheUndefinedBytes := by
  unfold Obligations.StepHaltsExactlyOnTheUndefinedBytes
  intro s
  have hhalted : Halted s ↔ memRead s.mem s.pc ∈ Claims.undefinedBytes := t6502_eq_none_iff _
  exact ⟨(step_eq_halted_iff s).trans hhalted, hhalted, safeStep s⟩

end Machine

end Sys2Proof
end

-- The operands of the thirteen modes, over the natural numbers (O42, O43; 30_encoding.md R52 to R64).
section

namespace Sys2Proof.Machine

/-- `zext_16` is the address of the byte's number (00_scope.md R13). -/
theorem zext16_eq_ofNat (b : Byte) : zext16 b = BitVec.ofNat 16 b.toNat := (BitVec.ofNat_toNat 16 b).symm

/-- An address taken modulo 2^16 is itself. -/
theorem ofNat16_mod (k : Nat) : BitVec.ofNat 16 (k % 65536) = BitVec.ofNat 16 k := by
  apply BitVec.eq_of_toNat_eq
  simp

/-- An 8-bit sum extended to an address wraps inside the zero page (30_encoding.md R56, R57). -/
theorem zext16_add_eq_ofNat (b index : Byte) :
    zext16 (b + index) = BitVec.ofNat 16 ((b.toNat + index.toNat) % 256) := by
  rw [zext16_eq_ofNat, BitVec.toNat_add]

/-- A concatenation is the little-endian number of its two bytes (20_memory.md R38). -/
theorem concat_eq_ofNat (hi lo : Byte) : concat hi lo = BitVec.ofNat 16 (Claims.absolute lo hi) := by
  apply BitVec.eq_of_toNat_eq
  have hshift := Nat.shiftLeft_add_eq_or_of_lt lo.isLt hi.toNat
  rw [concat, BitVec.toNat_append, ← hshift, Nat.shiftLeft_eq, Claims.absolute, BitVec.toNat_ofNat]
  omega

/-- An index added to an address is unsigned and wraps at the top of memory (30_encoding.md R60, R61, R65). -/
theorem ofNat_add_zext16 (k : Nat) (index : Byte) :
    BitVec.ofNat 16 k + zext16 index = BitVec.ofNat 16 ((k + index.toNat) % 65536) := by
  rw [zext16_eq_ofNat, ← BitVec.ofNat_add, ofNat16_mod]

/-- Both bytes of a pointer are read modulo 256, so only the low byte of its place counts (R63, R64). -/
theorem pointer_mod (s : State) (k : Nat) : Claims.pointer s (k % 256) = Claims.pointer s k := by
  rw [Claims.pointer, Claims.pointer, Nat.mod_mod, Nat.mod_add_mod]

/-- The pointer in the zero page, over the natural numbers: the byte after 0xFF is at 0x00 (R63, R64). -/
theorem zeroPagePointer_eq_ofNat (s : State) (p : Byte) :
    zeroPagePointer s.mem p = BitVec.ofNat 16 (Claims.pointer s p.toNat) := by
  have hlow : p.toNat % 256 = p.toNat := Nat.mod_eq_of_lt p.isLt
  rw [zeroPagePointer, concat_eq_ofNat, zext16_add_eq_ofNat, zext16_eq_ofNat, Claims.pointer, hlow]
  rfl

/-- Settles O42: zero-page sums wrap at 8 bits and indexed addresses at 16. -/
theorem operandsOfTheDirectModes : Obligations.OperandsOfTheDirectModes := by
  unfold Obligations.OperandsOfTheDirectModes
  intro s b lo hi
  refine ⟨rfl, rfl, rfl, rfl, congrArg Operand.address ?zeroPage, congrArg Operand.address ?zeroPageX,
    congrArg Operand.address ?zeroPageY, congrArg Operand.address ?absolute, congrArg Operand.address ?indirect,
    congrArg Operand.address ?absoluteX, congrArg Operand.address ?absoluteY⟩
  case zeroPage => exact zext16_eq_ofNat b
  case zeroPageX => exact zext16_add_eq_ofNat b s.x
  case zeroPageY => exact zext16_add_eq_ofNat b s.y
  case absolute | indirect => exact concat_eq_ofNat hi lo
  case absoluteX => rw [concat_eq_ofNat, ofNat_add_zext16, Claims.absoluteX]
  case absoluteY => rw [concat_eq_ofNat, ofNat_add_zext16, Claims.absoluteY]

/-- Settles O43: X is added to the place of the pointer, Y to the pointer itself. -/
theorem operandsOfThePointerModes : Obligations.OperandsOfThePointerModes := by
  unfold Obligations.OperandsOfThePointerModes
  intro s b
  refine ⟨congrArg Operand.address ?indexedIndirectX, congrArg Operand.address ?indirectIndexedY⟩
  case indexedIndirectX => rw [zeroPagePointer_eq_ofNat, BitVec.toNat_add, pointer_mod, Claims.indexedIndirectX]
  case indirectIndexedY => rw [zeroPagePointer_eq_ofNat, ofNat_add_zext16, Claims.indirectIndexedY]

end Sys2Proof.Machine
end

-- Where the dispatcher has no case (O44), and PC in the execution of an instruction (O11, O15; 40_cycle.md R74 to R78).
section

namespace Sys2Proof.Machine

/-- A pair the dispatcher has no case for takes the fallback, which changes nothing (40_cycle.md R77, R78). -/
theorem executeInstruction_of_hasSemantics_eq_false {tag : Tag} {operand : Operand}
    (h : hasSemantics tag operand = false) (cfg : Config State) (s : State) :
    executeInstruction cfg tag operand s = s := by
  cases tag with
  | adc | lda | ldx | ldy =>
    obtain rfl : operand = .implied := bne_eq_false_iff_eq.mp h
    rfl
  | dex =>
    cases operand with
    | implied => cases h
    | _ => rfl
  | _ => rfl

/-- Settles O44: none of the three kinds of pair has a case of its own. -/
theorem everyOtherPairIsANoOp : Obligations.EveryOtherPairIsANoOp := by
  unfold Obligations.EveryOtherPairIsANoOp
  intro cfg tag operand s
  refine ⟨fun htag => ?otherTag, fun htag himplied => ?noValue, fun hdex hoperand => ?dexOperand⟩
  case otherTag =>
    have hsub : [Tag.adc, .lda, .ldx, .ldy, .dex] ⊆ Claims.implementedTags := by decide
    exact executeInstruction_of_not_mem (fun hmem => htag (hsub hmem)) cfg operand s
  case noValue =>
    have hnone : ∀ tag ∈ [Tag.adc, .lda, .ldx, .ldy], hasSemantics tag .implied = false := by decide
    subst himplied
    exact executeInstruction_of_hasSemantics_eq_false (hnone tag htag) cfg s
  case dexOperand =>
    have hnone : hasSemantics tag operand = false := hdex ▸ beq_eq_false_iff_ne.mpr hoperand
    exact executeInstruction_of_hasSemantics_eq_false hnone cfg s

/-- The resolver does not read PC (30_encoding.md R51). -/
theorem resolve_with_pc (mode : Mode) (s : State) (w : Word) (bs : List Byte) :
    resolve mode { s with pc := w } bs = resolve mode s bs := by cases mode <;> rfl

/-- No case of the dispatcher reads PC (41_alu_primitives.md R93), so replacing PC commutes with each. -/
theorem executeInstruction_with_pc (cfg : Config State) (tag : Tag) (operand : Operand) (s : State) (w : Word) :
    executeInstruction cfg tag operand { s with pc := w } =
      { executeInstruction cfg tag operand s with pc := w } := by
  cases tag with
  | adc | lda | ldx | ldy | dex => cases operand <;> rfl
  | _ => rfl

/-- Settles O15: neither the resolver nor the dispatcher reads PC, and the advance adds the same length to any PC. -/
theorem executionDoesNotReadPc : Obligations.ExecutionDoesNotReadPc := by
  unfold Obligations.ExecutionDoesNotReadPc
  intro i s t w hexec
  have hadvance : advancePc i.length { s with pc := w } =
      { advancePc i.length s with pc := w + BitVec.ofNat 16 i.length } := rfl
  rw [exec_eq] at hexec
  cases hexec
  rw [exec_eq, resolve_with_pc, hadvance, executeInstruction_with_pc, encode_length]

/-- Settles O11: the fetch answers what the bytes at PC decode to, and `exec` of it moves PC past it (O16). -/
theorem stepRunsTheInstructionDecodedAtPc : Obligations.StepRunsTheInstructionDecodedAtPc := by
  unfold Obligations.StepRunsTheInstructionDecodedAtPc
  intro s i rest hdecode
  have hstep := step_of_fetchDecode_eq_some (fetchDecode_of_decode hdecode)
  obtain ⟨t, hexec, -, hpc, -⟩ := execCompletesAndKeepsItsFrame i s
  exact ⟨hstep, t, hstep.trans hexec, hpc⟩

end Sys2Proof.Machine
end

-- The run loop: where it halts (O45), and that the host interface's run is this loop (O46; 40_cycle.md R79 to R83).
section

namespace Sys2Proof.Machine

section runLoop
variable {cfg : Config State} {fuel k n : Nat} {s t : State}

/-- A fetch answers nothing exactly where the opcode table has no entry for the byte at PC (R73). -/
theorem fetchNextAndDecode_eq_none_iff :
    fetchNextAndDecode cfg s = none ↔ cfg.opcodeTable (memRead s.mem s.pc) = none := by
  unfold fetchNextAndDecode
  cases cfg.opcodeTable (memRead s.mem s.pc) <;> simp

/-- A step halts exactly there, in the state it began with (R73, R79). -/
theorem engineStep_eq_halted_iff :
    engineStep cfg s = .halted t ↔ cfg.opcodeTable (memRead s.mem s.pc) = none ∧ t = s := by
  rw [← fetchNextAndDecode_eq_none_iff, engineStep]
  cases fetchNextAndDecode cfg s <;> simp [eq_comm]

/-- A run whose first step halts has executed no instruction (R80). -/
theorem run_of_halted (h : engineStep cfg s = .halted t) : run cfg (fuel + 1) s = .halted 0 t := by
  simp only [run, h]

/-- A run whose first step goes on is the rest of the run, with one more instruction executed (R80). -/
theorem run_of_running (h : engineStep cfg s = .running t) : run cfg (fuel + 1) s = (run cfg fuel t).afterOneMore := by
  simp only [run, h]

/-- No steps go on from a state whose step halts. -/
theorem afterSteps_of_halted (h : engineStep cfg s = .halted t) : Claims.afterSteps cfg (n + 1) s = none := by
  simp only [Claims.afterSteps, h]

/-- A step that goes on is the first of the steps that go on. -/
theorem afterSteps_of_running (h : engineStep cfg s = .running t) :
    Claims.afterSteps cfg (n + 1) s = Claims.afterSteps cfg n t := by
  simp only [Claims.afterSteps, h]

/-- A run with an instruction before it has not halted after none. -/
theorem RunOutcome.afterOneMore_ne_halted_zero (o : RunOutcome) : o.afterOneMore ≠ .halted 0 t := by
  cases o <;> simp [RunOutcome.afterOneMore]

/-- It has halted after `n + 1` exactly when the rest has after `n`. -/
theorem RunOutcome.afterOneMore_eq_halted_succ_iff {o : RunOutcome} :
    o.afterOneMore = .halted (n + 1) t ↔ o = .halted n t := by
  cases o <;> simp [RunOutcome.afterOneMore]

/-- A run halts in `t` after `n` instructions exactly when `n` steps lead to `t`, the table has no entry for the byte
at PC there, and the fuel allows the step that finds this out (R80, R81). -/
theorem run_eq_halted_iff : run cfg fuel s = .halted n t ↔
    n < fuel ∧ Claims.afterSteps cfg n s = some t ∧ cfg.opcodeTable (memRead t.mem t.pc) = none := by
  induction fuel generalizing n s with
  | zero => simp [run]
  | succ fuel ih =>
    cases hstep : engineStep cfg s with
    | halted s' =>
      obtain ⟨hentry, rfl⟩ := engineStep_eq_halted_iff.mp hstep
      rw [run_of_halted hstep]
      cases n with
      | zero =>
        simp only [Claims.afterSteps, RunOutcome.halted.injEq, Option.some.injEq, Nat.zero_lt_succ, true_and]
        exact ⟨fun heq => ⟨heq, heq ▸ hentry⟩, fun ⟨heq, _⟩ => heq⟩
      | succ n => simp [afterSteps_of_halted hstep]
    | running s' =>
      rw [run_of_running hstep]
      cases n with
      | zero =>
        refine iff_of_false (RunOutcome.afterOneMore_ne_halted_zero _) ?_
        rintro ⟨-, hsame, hentry⟩
        obtain rfl : s = t := Option.some.inj hsame
        cases hstep.symm.trans (engineStep_eq_halted_iff.mpr ⟨hentry, rfl⟩)
      | succ n =>
        rw [RunOutcome.afterOneMore_eq_halted_succ_iff, ih, afterSteps_of_running hstep, Nat.succ_lt_succ_iff]

/-- The host interface's run goes on after a step that answers a next state. -/
theorem coreRun_of_next (h : step s = .next t) : Host.Core.run core (k + 1) s = Host.Core.run core k t := by
  have hcore : core.step s = .next t := h
  simp only [Host.Core.run, hcore]

/-- It stops at a step that stops with a fault. -/
theorem coreRun_of_fault {r : Fault} (h : step s = .fault r) : Host.Core.run core (k + 1) s = .fault r := by
  have hcore : core.step s = .fault r := h
  simp only [Host.Core.run, hcore]

/-- An outcome of the run loop in the host's three, as `StepOutcome.toResult` for a step (log 1). -/
def RunOutcome.toResult : RunOutcome → Result
  | .notYetHalted s => .next s
  | .halted _ _ => .fault .halted

/-- The host does not see how many instructions a run has executed. -/
@[simp] theorem RunOutcome.afterOneMore_toResult (o : RunOutcome) : o.afterOneMore.toResult = o.toResult := by
  cases o <;> rfl

/-- The host interface's run answers what the run loop at the defaults answers, for every fuel: each of their steps
is the same one (O13). -/
theorem coreRun_eq_run_toResult : Host.Core.run core k s = (run defaultConfig k s).toResult := by
  induction k generalizing s with
  | zero => rfl
  | succ k ih =>
    have hstep := stepIsTheEngineAtItsDefaults s
    cases hengine : engineStep defaultConfig s with
    | halted t =>
      rw [hengine] at hstep
      exact (coreRun_of_fault hstep).trans (congrArg RunOutcome.toResult (run_of_halted hengine)).symm
    | running t =>
      rw [hengine] at hstep
      rw [coreRun_of_next hstep, run_of_running hengine, RunOutcome.afterOneMore_toResult, ih]

end runLoop

/-- Settles O45: the second clause is the first with no steps. -/
theorem aRunEndsAtAnUndefinedByteAndStaysThere : Obligations.ARunEndsAtAnUndefinedByteAndStaysThere := by
  unfold Obligations.ARunEndsAtAnUndefinedByteAndStaysThere
  intro cfg fuel n s t
  exact ⟨run_eq_halted_iff, fun hentry => run_eq_halted_iff.mpr ⟨Nat.succ_pos fuel, rfl, hentry⟩⟩

/-- Settles O46: the translation of the run loop's outcome, written out. -/
theorem theHostsRunIsTheRunLoop : Obligations.TheHostsRunIsTheRunLoop := by
  unfold Obligations.TheHostsRunIsTheRunLoop
  intro k s
  refine coreRun_eq_run_toResult.trans ?_
  cases run defaultConfig k s <;> rfl

end Sys2Proof.Machine
end

-- The arithmetic of the ALU primitives over natural numbers (41_alu_primitives.md R84 to R93; O35 to O40).
section

namespace Sys2Proof.Machine

open Sys2Proof.Claims

/-- The bits of a status byte with N, V, Z and C as given (10_state.md R23). -/
theorem statusOf_getLsbD (n v z c : Bool) (p : Byte) (bit : StatusBit) :
    (statusOf n v z c p).getLsbD bit.position =
      match bit with
      | .n => n
      | .v => v
      | .z => z
      | .c => c
      | _ => p.getLsbD bit.position := by
  simp only [statusOf, BitVec.ofBoolListBE, BitVec.getLsbD_cons]
  cases bit <;> rfl

theorem isZero_eq_decide (v : Byte) : isZero v = decide (v.toNat = 0) :=
  decide_eq_decide.mpr (BitVec.toNat_eq (y := 0x00))

theorem isNegative_eq_decide (v : Byte) : isNegative v = decide (128 ≤ v.toNat) := BitVec.msb_eq_decide v

/-- The sum of R85 is the exact sum modulo 256 (R91). -/
theorem toNat_add_carryByte (a v : Byte) (c : Bool) :
    (a + v + carryByte c).toNat = (a.toNat + v.toNat + c.toNat) % 256 := by
  cases c <;> simp [carryByte, BitVec.toNat_add]

theorem ofNat_exactSum (v : Byte) (s : State) :
    BitVec.ofNat 8 (exactSum v s) = s.a + v + carryByte (s.flag .c) :=
  BitVec.eq_of_toNat_eq ((BitVec.toNat_ofNat _ 8).trans (toNat_add_carryByte s.a v (s.flag .c)).symm)

/-- Taking 1 from a byte is adding 255 modulo 256 (R91). -/
theorem sub_one_eq_ofNat (v : Byte) : v - 0x01 = BitVec.ofNat 8 (v.toNat + 255) := by
  apply BitVec.eq_of_toNat_eq
  simp [BitVec.toNat_sub, Nat.add_comm]

section primitives
variable (rule : FlagRule) (r : Reg) (v : Byte) (s : State) (w : Word)

/-- P after a load with flags: Z and N from the value, the rest kept (R84). -/
theorem loadWithFlags_p_eq_loadedStatus : (loadWithFlags r v s).p = loadedStatus v s.p := by
  apply status_ext
  intro bit
  rw [loadedStatus, statusOf_getLsbD, ← isZero_eq_decide, ← isNegative_eq_decide]
  refine (loadWithFlags_flag r v s bit).trans ?_
  cases bit <;> rfl

/-- P after an addition: C and V by the rule, Z and N from the sum, the rest kept (R85). -/
theorem addWithCarryUnder_p_eq_statusOf : (addWithCarryUnder rule v s).p =
    statusOf (isNegative (s.a + v + carryByte (s.flag .c)))
      (overflowOut rule s.a v (s.a + v + carryByte (s.flag .c)))
      (isZero (s.a + v + carryByte (s.flag .c)))
      (carryOut rule s.a v (s.flag .c) (s.a + v + carryByte (s.flag .c))) s.p := by
  apply status_ext
  intro bit
  rw [statusOf_getLsbD]
  refine (addWithCarryUnder_flag rule v s bit).trans ?_
  cases bit <;> rfl

/-- A load with flags writes its register and P only (R84). -/
theorem loadWithFlags_eq_with : loadWithFlags r v s = { writeReg r v s with p := loadedStatus v s.p } := by
  rw [← loadWithFlags_p_eq_loadedStatus r]
  cases r <;> rfl

theorem decrement_x_eq_decrementedX : decrement .x s = decrementedX s := by
  rw [decrementedX, ← sub_one_eq_ofNat]
  exact loadWithFlags_eq_with .x _ s

theorem loadWithFlags_with_pc : loadWithFlags r v { s with pc := w } = { loadWithFlags r v s with pc := w } := by
  cases r <;> rfl

theorem addWithCarryUnder_with_pc :
    addWithCarryUnder rule v { s with pc := w } = { addWithCarryUnder rule v s with pc := w } := rfl

theorem decrement_with_pc : decrement r { s with pc := w } = { decrement r s with pc := w } := by
  cases r <;> rfl

theorem decrement_readReg_same : readReg r (decrement r s) = readReg r s - 0x01 := by
  rw [decrement, loadWithFlags_readReg, if_pos rfl]

end primitives

/-! Carry-out and overflow-out (R86 to R88), of any A, operand and carry-in. -/

section flagRules
variable (a v r : Byte) (c : Bool)

theorem overflowOut_chip : overflowOut .chip a v r = signsOverflow a v r := by
  simp only [overflowOut, signsOverflow, BitVec.msb_eq_getLsbD_last]

theorem overflowOut_sourceLiteral : overflowOut .sourceLiteral a v r =
    decide ((a.toInt < 0 ∧ v.toInt < 0 ∧ r.toInt ≥ 0) ∨ (a.toInt > 0 ∧ v.toInt > 0 ∧ r.toInt ≤ 0)) := by
  simp only [overflowOut, Bool.decide_or, Bool.decide_and, Bool.and_assoc]

/-- The sign rule over natural numbers: A and the operand in one half of the byte range, the result in the other. -/
theorem signsOverflow_iff : signsOverflow a v r = true ↔
    (128 ≤ a.toNat ↔ 128 ≤ v.toNat) ∧ ¬(128 ≤ r.toNat ↔ 128 ≤ a.toNat) := by
  rw [← overflowOut_chip]
  simp [overflowOut, BitVec.msb_eq_decide]

/-- The literal comparisons over natural numbers: they differ from the sign rule in that 0 is not positive. -/
theorem overflowOut_sourceLiteral_iff : overflowOut .sourceLiteral a v r = true ↔
    (128 ≤ a.toNat ∧ 128 ≤ v.toNat ∧ r.toNat < 128) ∨
    ((0 < a.toNat ∧ a.toNat < 128) ∧ (0 < v.toNat ∧ v.toNat < 128) ∧ (r.toNat = 0 ∨ 128 ≤ r.toNat)) := by
  rw [overflowOut_sourceLiteral, decide_eq_true_iff]
  simp only [BitVec.toInt_eq_toNat_cond]
  omega

/-- Without a carry-in, the chip's carry is the literal comparison (R86). -/
theorem carryOut_without_carryIn :
    carryOut .chip a v false (a + v + carryByte false) = decide ((a + v + carryByte false).toNat < a.toNat) := by
  simp only [carryOut, toNat_add_carryByte, decide_eq_decide, Bool.toNat_false]
  omega

/-- A literal carry is a carry of the chip: a result below A has wrapped (R88). -/
theorem carryOut_chip_of_sourceLiteral (h : carryOut .sourceLiteral a v c (a + v + carryByte c) = true) :
    carryOut .chip a v c (a + v + carryByte c) = true := by
  simp only [carryOut, toNat_add_carryByte, decide_eq_true_iff] at h ⊢
  omega

/-- The two carries differ where operand and carry-in together are 256, so that the result is A again (R88). -/
theorem carryOut_ne_iff :
    carryOut .chip a v c (a + v + carryByte c) ≠ carryOut .sourceLiteral a v c (a + v + carryByte c) ↔
      c = true ∧ v = 0xFF := by
  have hc := c.toNat_le
  simp only [carryOut, toNat_add_carryByte, ne_eq, decide_eq_decide, ← Bool.toNat_eq_one, BitVec.toNat_eq,
    BitVec.reduceToNat]
  omega

/-- A literal overflow is an overflow by the sign rule: a positive sum of positive bytes is not 0 (R88). -/
theorem overflowOut_chip_of_sourceLiteral (h : overflowOut .sourceLiteral a v (a + v + carryByte c) = true) :
    overflowOut .chip a v (a + v + carryByte c) = true := by
  rw [overflowOut_sourceLiteral_iff] at h
  rw [overflowOut_chip, signsOverflow_iff]
  have hc := c.toNat_le
  rw [toNat_add_carryByte] at h ⊢
  omega

/-- The two overflows differ where 0 and 0x7F with the carry-in make 0x80 (R88). -/
theorem overflowOut_ne_iff :
    overflowOut .chip a v (a + v + carryByte c) ≠ overflowOut .sourceLiteral a v (a + v + carryByte c) ↔
      c = true ∧ ((a = 0x00 ∧ v = 0x7F) ∨ (a = 0x7F ∧ v = 0x00)) := by
  have hc := c.toNat_le
  rw [ne_eq, Bool.eq_iff_iff, overflowOut_sourceLiteral_iff, overflowOut_chip, signsOverflow_iff, toNat_add_carryByte]
  simp only [← Bool.toNat_eq_one, BitVec.toNat_eq, BitVec.reduceToNat]
  omega

/-- The sign rule says when the exact signed sum leaves -128 to 127 (R13, R87). -/
theorem signsOverflow_iff_out_of_range : signsOverflow a v (a + v + carryByte c) = true ↔
    a.toInt + v.toInt + (c.toNat : Int) < -128 ∨ 127 < a.toInt + v.toInt + (c.toNat : Int) := by
  have hc := c.toNat_le
  rw [signsOverflow_iff, toNat_add_carryByte]
  simp only [BitVec.toInt_eq_toNat_cond]
  omega

end flagRules

/-- An addition under either setting is the spec's, in the terms of the exact sum (R85 to R88, R91). -/
theorem addWithCarryUnder_eq_addedUnder (rule : FlagRule) (v : Byte) (s : State) :
    addWithCarryUnder rule v s = addedUnder rule v s := by
  have hframe : addWithCarryUnder rule v s =
    { s with a := s.a + v + carryByte (s.flag .c), p := (addWithCarryUnder rule v s).p } := rfl
  rw [hframe, addWithCarryUnder_p_eq_statusOf, isNegative_eq_decide, isZero_eq_decide]
  cases rule with
  | chip =>
    rw [overflowOut_chip, toNat_add_carryByte, ← ofNat_exactSum]
    rfl
  | sourceLiteral =>
    rw [overflowOut_sourceLiteral, ← ofNat_exactSum]
    rfl

/-- Two bits that differ, the second on only where the first is. -/
theorem true_and_false_of_ne {x y : Bool} (h : y = true → x = true) (hne : x ≠ y) : x = true ∧ y = false := by
  cases y with
  | true => exact absurd (h rfl) hne
  | false => exact ⟨Bool.ne_false_iff.mp hne, rfl⟩

/-- Settles O35: each primitive with its arithmetic over natural numbers, and replacing PC commutes with each. -/
theorem aluEntryPointsDoNotTouchPc : Obligations.AluEntryPointsDoNotTouchPc := by
  unfold Obligations.AluEntryPointsDoNotTouchPc
  intro v s w
  refine ⟨loadWithFlags_eq_with .a v s, loadWithFlags_eq_with .x v s, loadWithFlags_eq_with .y v s,
    addWithCarryUnder_eq_addedUnder .chip v s, decrement_x_eq_decrementedX s, ?_⟩
  have hload (r : Reg) := And.intro (loadWithFlags_with_pc r v s w)
    (And.intro (loadWithFlags_pc r v s) (loadWithFlags_mem r v s))
  simp only [List.forall_mem_cons, List.not_mem_nil, IsEmpty.forall_iff, implies_true, and_true]
  exact ⟨hload .a, hload .x, hload .y, ⟨addWithCarryUnder_with_pc flagRule v s w, rfl, rfl⟩,
    decrement_with_pc .x s w, loadWithFlags_pc .x _ s, loadWithFlags_mem .x _ s⟩

/-- Settles O36: A and P after the addition, in the terms of the exact sum. -/
theorem addWithCarryUnderEitherFlagRule : Obligations.AddWithCarryUnderEitherFlagRule := by
  unfold Obligations.AddWithCarryUnderEitherFlagRule
  exact fun v s => ⟨addWithCarryUnder_eq_addedUnder .chip v s, addWithCarryUnder_eq_addedUnder .sourceLiteral v s⟩

/-- Settles O37: the first clause is R86 itself. -/
theorem carryIsSetIffTheUnsignedSumWraps : Obligations.CarryIsSetIffTheUnsignedSumWraps := by
  unfold Obligations.CarryIsSetIffTheUnsignedSumWraps
  intro v s
  refine ⟨addWithCarryUnder_flag .chip v s .c, fun hc => (addWithCarryUnder_flag .chip v s .c).trans ?_⟩
  simpa only [addWithCarryUnder_a, hc] using carryOut_without_carryIn s.a v

/-- Settles O38: V is the sign rule, and the sign rule is the exact signed range. -/
theorem overflowIsSetIffTheSignedSumIsOutOfRange : Obligations.OverflowIsSetIffTheSignedSumIsOutOfRange := by
  unfold Obligations.OverflowIsSetIffTheSignedSumIsOutOfRange
  intro v s
  have hV : (addWithCarryUnder .chip v s).flag .v = signsOverflow s.a v (addWithCarryUnder .chip v s).a :=
    (addWithCarryUnder_flag .chip v s .v).trans (overflowOut_chip _ _ _)
  refine ⟨hV, ?_⟩
  rw [hV]
  exact signsOverflow_iff_out_of_range s.a v (s.flag .c)

/-- Settles O39: the two settings write C and V by the two rules, and all else alike. -/
theorem flagRulesDifferInExactlyTheListedCases : Obligations.FlagRulesDifferInExactlyTheListedCases := by
  unfold Obligations.FlagRulesDifferInExactlyTheListedCases
  intro v s
  have hC (rule : FlagRule) := addWithCarryUnder_flag rule v s .c
  have hV (rule : FlagRule) := addWithCarryUnder_flag rule v s .v
  refine ⟨?carryDiffers, ?carryValues, ?overflowDiffers, ?overflowValues, hC .sourceLiteral,
    (hV .sourceLiteral).trans (overflowOut_sourceLiteral _ _ _), ?otherBits, rfl⟩
  case carryDiffers =>
    rw [hC, hC]
    exact carryOut_ne_iff s.a v (s.flag .c)
  case carryValues =>
    rw [hC, hC]
    exact true_and_false_of_ne (carryOut_chip_of_sourceLiteral s.a v (s.flag .c))
  case overflowDiffers =>
    rw [hV, hV]
    exact overflowOut_ne_iff s.a v (s.flag .c)
  case overflowValues =>
    rw [hV, hV]
    exact true_and_false_of_ne (overflowOut_chip_of_sourceLiteral s.a v (s.flag .c))
  case otherBits =>
    intro bit hc hv
    rw [addWithCarryUnder_flag, addWithCarryUnder_flag]
    cases bit <;> simp at hc hv ⊢

/-- Settles O40: a decrement is a load with flags of the register less 1. -/
theorem decrementWrapsModulo256InEveryRegister : Obligations.DecrementWrapsModulo256InEveryRegister := by
  unfold Obligations.DecrementWrapsModulo256InEveryRegister
  intro r s
  have hz : (decrement r s).flag .z = isZero (readReg r s - 0x01) := loadWithFlags_flag r _ s .z
  have hn : (decrement r s).flag .n = isNegative (readReg r s - 0x01) := loadWithFlags_flag r _ s .n
  rw [decrement_readReg_same, hz, hn]
  refine ⟨?sum, isZero_eq_decide _, isNegative_eq_decide _, fun bit hbz hbn => ?otherBits, fun r' hr => ?otherRegs,
    loadWithFlags_pc r _ s, loadWithFlags_mem r _ s, fun h => ?zero, fun h => ?mostNegative, fun h => ?one⟩
  case sum => rw [sub_one_eq_ofNat, BitVec.toNat_ofNat]
  case otherBits =>
    rw [decrement, loadWithFlags_flag]
    cases bit <;> simp at hbz hbn ⊢
  case otherRegs => rw [decrement, loadWithFlags_readReg, if_neg hr]
  case zero => rw [h]; decide
  case mostNegative => rw [h]; decide
  case one => rw [h]; decide

end Sys2Proof.Machine
end

-- What an instruction performs, from the dispatcher's case for its tag and the operand its mode resolves; with it ADC
-- in all eight modes (O17; 40_cycle.md R74 to R77, 42_adc.md R94).
section

namespace Sys2Proof.Machine

open Sys2Proof.Claims

section performs
variable {i : Instr} {bytes : List Byte}

/-- An instruction performs what the dispatcher does with its operand: no case of the dispatcher reads or writes PC, so
the advance may come after it (40_cycle.md R74, R75). -/
theorem performs_of_executeInstruction {f : State → State} (hbytes : encode i = bytes)
    (hf : ∀ s, executeInstruction defaultConfig i.tag (resolve i.mode s i.operandBytes) s = f s) :
    Performs i bytes f := by
  refine ⟨hbytes, fun s => ?_⟩
  have hadvance : advancePc i.length s = { s with pc := s.pc + BitVec.ofNat 16 i.length } := rfl
  rw [exec_eq, hadvance, executeInstruction_with_pc, hf, ← hbytes, encode_length]

variable {tag : Tag} {f : Byte → State → State} {v : Byte} {place : State → Nat}
  (hcase : ∀ operand s, executeInstruction defaultConfig i.tag operand s = withValue tag f operand s)
include hcase

/-- With an immediate operand, an instruction with a value runs on the operand byte (42_adc.md R94, 43_loads.md). -/
theorem performs_of_immediate (hbytes : encode i = bytes)
    (hoperand : ∀ s, resolve i.mode s i.operandBytes = .immediate v) : Performs i bytes (f v) :=
  performs_of_executeInstruction hbytes fun s => by rw [hcase, hoperand, withValue]

/-- With an address, it runs on the byte of memory there (R94, 43_loads.md). -/
theorem performs_of_address (hbytes : encode i = bytes)
    (hoperand : ∀ s, resolve i.mode s i.operandBytes = .address (BitVec.ofNat 16 (place s))) :
    Performs i bytes (fun s => f (byteAt s (place s)) s) :=
  performs_of_executeInstruction hbytes fun s => by rw [hcase, hoperand, withValue, byteAt]

end performs

/-- The dispatcher's case for ADC, in the terms of the exact sum (40_cycle.md R77, 41_alu_primitives.md R85 to R88). -/
theorem executeInstruction_adc (cfg : Config State) (operand : Operand) (s : State) :
    executeInstruction cfg .adc operand s = withValue .adc (addedUnder cfg.flagRule) operand s := by
  have hadd : addWithCarryUnder cfg.flagRule = addedUnder cfg.flagRule :=
    funext₂ (addWithCarryUnder_eq_addedUnder cfg.flagRule)
  rw [executeInstruction, hadd]

/-- Settles O17: each form adds the value its mode resolves, under the machine's own flag rule. -/
theorem adcAddsWithCarryInEveryMode : Obligations.AdcAddsWithCarryInEveryMode := by
  unfold Obligations.AdcAddsWithCarryInEveryMode
  refine ⟨fun b lo hi => ?forms, fun cfg s v a => ?dispatcher⟩
  case forms =>
    have hdirect (s : State) := operandsOfTheDirectModes s b lo hi
    have hpointer (s : State) := operandsOfThePointerModes s b
    simp only [forall_and] at hdirect hpointer
    obtain ⟨-, -, himmediate, -, hzeroPage, hzeroPageX, -, habsolute, -, habsoluteX, habsoluteY⟩ := hdirect
    obtain ⟨hindirectX, hindirectY⟩ := hpointer
    have hadc : ∀ operand s, executeInstruction defaultConfig .adc operand s = withValue .adc added operand s :=
      executeInstruction_adc defaultConfig
    exact ⟨performs_of_address hadc rfl hindirectX, performs_of_address hadc rfl hzeroPage,
      performs_of_immediate hadc rfl himmediate, performs_of_address hadc rfl habsolute,
      performs_of_address hadc rfl hindirectY, performs_of_address hadc rfl hzeroPageX,
      performs_of_address hadc rfl habsoluteY, performs_of_address hadc rfl habsoluteX⟩
  case dispatcher =>
    simp only [executeInstruction_adc]
    exact ⟨rfl, rfl, rfl⟩

end Sys2Proof.Machine
end

-- The three loads in every mode they have, and with Implied (O18 to O20; 43_loads.md R95 to R97).
section

namespace Sys2Proof.Machine

open Sys2Proof.Claims

/-- The modes of the loads, each with its operand over natural numbers in every state (30_encoding.md R54 to R64). -/
theorem resolve_loadModes (b lo hi : Byte) :
    (∀ s, resolve .immediate s [b] = .immediate b) ∧
    (∀ s, resolve .zeroPage s [b] = .address (BitVec.ofNat 16 (zeroPage b))) ∧
    (∀ s, resolve .zeroPageX s [b] = .address (BitVec.ofNat 16 (zeroPageX s b))) ∧
    (∀ s, resolve .zeroPageY s [b] = .address (BitVec.ofNat 16 (zeroPageY s b))) ∧
    (∀ s, resolve .absolute s [lo, hi] = .address (BitVec.ofNat 16 (absolute lo hi))) ∧
    (∀ s, resolve .absoluteX s [lo, hi] = .address (BitVec.ofNat 16 (absoluteX s lo hi))) ∧
    (∀ s, resolve .absoluteY s [lo, hi] = .address (BitVec.ofNat 16 (absoluteY s lo hi))) ∧
    (∀ s, resolve .indexedIndirectX s [b] = .address (BitVec.ofNat 16 (indexedIndirectX s b))) ∧
    (∀ s, resolve .indirectIndexedY s [b] = .address (BitVec.ofNat 16 (indirectIndexedY s b))) := by
  simp only [← forall_and]
  intro s
  obtain ⟨-, -, himmediate, -, hzeroPage, hzeroPageX, hzeroPageY, habsolute, -, habsoluteX, habsoluteY⟩ :=
    operandsOfTheDirectModes s b lo hi
  exact ⟨himmediate, hzeroPage, hzeroPageX, hzeroPageY, habsolute, habsoluteX, habsoluteY,
    operandsOfThePointerModes s b⟩

section dispatcher
variable (cfg : Config State) (operand : Operand) (s : State)

/-- The dispatcher's case for LDA (40_cycle.md R77) loads A, with Z and N from the value (41_alu_primitives.md R84). -/
theorem executeInstruction_lda : executeInstruction cfg .lda operand s = withValue .lda loadedA operand s := by
  have hload : loadWithFlags .a = loadedA := funext₂ (loadWithFlags_eq_with .a)
  rw [executeInstruction, hload]

/-- The dispatcher's case for LDX loads X (R77, R84). -/
theorem executeInstruction_ldx : executeInstruction cfg .ldx operand s = withValue .ldx loadedX operand s := by
  have hload : loadWithFlags .x = loadedX := funext₂ (loadWithFlags_eq_with .x)
  rw [executeInstruction, hload]

/-- The dispatcher's case for LDY loads Y (R77, R84). -/
theorem executeInstruction_ldy : executeInstruction cfg .ldy operand s = withValue .ldy loadedY operand s := by
  have hload : loadWithFlags .y = loadedY := funext₂ (loadWithFlags_eq_with .y)
  rw [executeInstruction, hload]

end dispatcher

/-- Settles O18: each form loads the value its mode resolves into A, and Implied takes the fallback. -/
theorem ldaLoadsAInEveryMode : Obligations.LdaLoadsAInEveryMode := by
  unfold Obligations.LdaLoadsAInEveryMode
  refine ⟨fun b lo hi => ?_, executeInstruction_of_hasSemantics_eq_false rfl defaultConfig⟩
  have hlda := executeInstruction_lda defaultConfig
  obtain ⟨himmediate, hzeroPage, hzeroPageX, -, habsolute, habsoluteX, habsoluteY, hindirectX, hindirectY⟩ :=
    resolve_loadModes b lo hi
  exact ⟨performs_of_address hlda rfl hindirectX, performs_of_address hlda rfl hzeroPage,
    performs_of_immediate hlda rfl himmediate, performs_of_address hlda rfl habsolute,
    performs_of_address hlda rfl hindirectY, performs_of_address hlda rfl hzeroPageX,
    performs_of_address hlda rfl habsoluteY, performs_of_address hlda rfl habsoluteX⟩

/-- Settles O19: LDX is indexed by Y, in the zero page (0xB6) and in all of memory (0xBE). -/
theorem ldxLoadsXInEveryMode : Obligations.LdxLoadsXInEveryMode := by
  unfold Obligations.LdxLoadsXInEveryMode
  refine ⟨fun b lo hi => ?_, executeInstruction_of_hasSemantics_eq_false rfl defaultConfig⟩
  have hldx := executeInstruction_ldx defaultConfig
  obtain ⟨himmediate, hzeroPage, -, hzeroPageY, habsolute, -, habsoluteY, -, -⟩ := resolve_loadModes b lo hi
  exact ⟨performs_of_immediate hldx rfl himmediate, performs_of_address hldx rfl hzeroPage,
    performs_of_address hldx rfl habsolute, performs_of_address hldx rfl hzeroPageY,
    performs_of_address hldx rfl habsoluteY⟩

/-- Settles O20: LDY is indexed by X, in the zero page (0xB4) and in all of memory (0xBC). -/
theorem ldyLoadsYInEveryMode : Obligations.LdyLoadsYInEveryMode := by
  unfold Obligations.LdyLoadsYInEveryMode
  refine ⟨fun b lo hi => ?_, executeInstruction_of_hasSemantics_eq_false rfl defaultConfig⟩
  have hldy := executeInstruction_ldy defaultConfig
  obtain ⟨himmediate, hzeroPage, hzeroPageX, -, habsolute, habsoluteX, -, -, -⟩ := resolve_loadModes b lo hi
  exact ⟨performs_of_immediate hldy rfl himmediate, performs_of_address hldy rfl hzeroPage,
    performs_of_address hldy rfl habsolute, performs_of_address hldy rfl hzeroPageX,
    performs_of_address hldy rfl habsoluteX⟩

end Sys2Proof.Machine
end

-- DEX with its one operand kind, and the fallback for the others (O21; 44_dex.md R98).
section

namespace Sys2Proof.Machine

open Sys2Proof.Claims

/-- The dispatcher's case for DEX (40_cycle.md R77) decrements X modulo 256 (41_alu_primitives.md R89). -/
theorem executeInstruction_dex_implied (cfg : Config State) (s : State) :
    executeInstruction cfg .dex .implied s = decrementedX s := by
  rw [executeInstruction, decrement_x_eq_decrementedX]

/-- Settles O21: the only mode of DEX resolves to Implied, and the dispatcher has no case for DEX with a value. -/
theorem dexDecrementsXModulo256 : Obligations.DexDecrementsXModulo256 := by
  unfold Obligations.DexDecrementsXModulo256
  refine ⟨?implied, fun s v => ?immediate, fun s a => ?address⟩
  case implied => exact performs_of_executeInstruction rfl (executeInstruction_dex_implied defaultConfig)
  case immediate => exact executeInstruction_of_hasSemantics_eq_false rfl defaultConfig s
  case address => exact executeInstruction_of_hasSemantics_eq_false rfl defaultConfig s

end Sys2Proof.Machine
end

-- An instruction whose tag has no primitive has no effect; with it NOP (O22; 40_cycle.md R77, R78, 45_nop.md R99).
section

namespace Sys2Proof.Machine

open Sys2Proof.Claims

/-- An instruction whose tag is none of ADC, the loads and DEX performs nothing: only the advance of PC is left
(40_cycle.md R74, R77, R78). -/
theorem noEffect_of_tag_not_mem {i : Instr} {bytes : List Byte} (hbytes : encode i = bytes)
    (htag : i.tag ∉ [Tag.adc, .lda, .ldx, .ldy, .dex]) : NoEffect i bytes :=
  have hperforms : Performs i bytes id :=
    performs_of_executeInstruction hbytes fun s =>
      executeInstruction_of_not_mem htag defaultConfig (resolve i.mode s i.operandBytes) s
  hperforms

/-- Settles O22: the dispatcher has no primitive for NOP, whatever the operand. -/
theorem nopOnlyAdvancesPc : Obligations.NopOnlyAdvancesPc := by
  unfold Obligations.NopOnlyAdvancesPc
  have htag : Tag.nop ∉ [Tag.adc, .lda, .ldx, .ldy, .dex] := by decide
  exact ⟨noEffect_of_tag_not_mem rfl htag, executeInstruction_of_not_mem htag defaultConfig⟩

end Sys2Proof.Machine
end

-- The instructions this core gives no semantics: each takes the fallback, so only PC moves (O23 to O32;
-- 46_unimplemented.md R100 to R149).
section

namespace Sys2Proof.Machine

open Sys2Proof.Claims

/-- An instruction whose tag the dispatcher has no case for, whatever the operand, takes the fallback and performs
nothing: only the advance of PC is left (40_cycle.md R74, R77, R78). -/
theorem noEffect_of_hasSemantics_eq_false {i : Instr} {bytes : List Byte} (hbytes : encode i = bytes)
    (hfallback : ∀ operand, hasSemantics i.tag operand = false) : NoEffect i bytes :=
  have hperforms : Performs i bytes id :=
    performs_of_executeInstruction hbytes fun s =>
      executeInstruction_of_hasSemantics_eq_false (hfallback (resolve i.mode s i.operandBytes)) defaultConfig s
  hperforms

/-- Settles O23: no form of AND, BIT, EOR or ORA has a case in the dispatcher. -/
theorem logicInstructionsOnlyAdvancePc : Obligations.LogicInstructionsOnlyAdvancePc := by
  unfold Obligations.LogicInstructionsOnlyAdvancePc
  intro b lo hi
  constructorm* _ ∧ _
  all_goals exact noEffect_of_hasSemantics_eq_false rfl fun _ => rfl

/-- Settles O24: no comparison has a case in the dispatcher, nor has SBC, unlike ADC. -/
theorem compareAndSubtractOnlyAdvancePc : Obligations.CompareAndSubtractOnlyAdvancePc := by
  unfold Obligations.CompareAndSubtractOnlyAdvancePc
  intro b lo hi
  constructorm* _ ∧ _
  all_goals exact noEffect_of_hasSemantics_eq_false rfl fun _ => rfl

/-- Settles O25: no shift or rotate has a case in the dispatcher, the accumulator forms included. -/
theorem shiftsAndRotatesOnlyAdvancePc : Obligations.ShiftsAndRotatesOnlyAdvancePc := by
  unfold Obligations.ShiftsAndRotatesOnlyAdvancePc
  intro b lo hi
  constructorm* _ ∧ _
  all_goals exact noEffect_of_hasSemantics_eq_false rfl fun _ => rfl

/-- Settles O26: of the increments and decrements only DEX has a case in the dispatcher. -/
theorem incrementsAndDecrementsOnlyAdvancePc : Obligations.IncrementsAndDecrementsOnlyAdvancePc := by
  unfold Obligations.IncrementsAndDecrementsOnlyAdvancePc
  intro b lo hi
  constructorm* _ ∧ _
  all_goals exact noEffect_of_hasSemantics_eq_false rfl fun _ => rfl

/-- Settles O27: the store's address is resolved, but the dispatcher has no case that writes there. -/
theorem storesWriteNoMemory : Obligations.StoresWriteNoMemory := by
  unfold Obligations.StoresWriteNoMemory
  intro b lo hi
  constructorm* _ ∧ _
  all_goals exact noEffect_of_hasSemantics_eq_false rfl fun _ => rfl

/-- Settles O28: no transfer between registers has a case in the dispatcher. -/
theorem transfersOnlyAdvancePc : Obligations.TransfersOnlyAdvancePc := by
  unfold Obligations.TransfersOnlyAdvancePc
  constructorm* _ ∧ _
  all_goals exact noEffect_of_hasSemantics_eq_false rfl fun _ => rfl

/-- Settles O29: the offset is resolved as an operand value, but the dispatcher has no case that adds it to PC. -/
theorem branchesAreNeverTaken : Obligations.BranchesAreNeverTaken := by
  unfold Obligations.BranchesAreNeverTaken
  intro b
  constructorm* _ ∧ _
  all_goals exact noEffect_of_hasSemantics_eq_false rfl fun _ => rfl

/-- Settles O30: a target is an operand address like any other, and no tag here has a case that moves PC there. -/
theorem jumpsCallsAndReturnsFallThrough : Obligations.JumpsCallsAndReturnsFallThrough := by
  unfold Obligations.JumpsCallsAndReturnsFallThrough
  intro lo hi
  constructorm* _ ∧ _
  all_goals exact noEffect_of_hasSemantics_eq_false rfl fun _ => rfl

/-- Settles O31: no flag instruction has a case in the dispatcher; for ADC the host's D is one more state (O17). -/
theorem flagInstructionsChangeNoFlag : Obligations.FlagInstructionsChangeNoFlag := by
  unfold Obligations.FlagInstructionsChangeNoFlag
  refine ⟨?_, ?_, ?_, ?_, ?_, ?_, ?_, fun cfg v a s => ?binaryAddition⟩
  case binaryAddition =>
    obtain ⟨-, hdispatcher⟩ := adcAddsWithCarryInEveryMode
    obtain ⟨himmediate, haddress, -⟩ := hdispatcher cfg (setWithMask 0x08 0x08 s) v a
    exact ⟨himmediate, haddress⟩
  all_goals exact noEffect_of_hasSemantics_eq_false rfl fun _ => rfl

/-- Settles O32: no push or pull has a case in the dispatcher. -/
theorem stackInstructionsChangeNothing : Obligations.StackInstructionsChangeNothing := by
  unfold Obligations.StackInstructionsChangeNothing
  constructorm* _ ∧ _
  all_goals exact noEffect_of_hasSemantics_eq_false rfl fun _ => rfl

end Sys2Proof.Machine
end

-- Zero-filled memory (O47) and boot (O48; 70_reset_and_hazards.md R166, R167, R170).
section

namespace Sys2Proof.Machine

/-- At a byte 0x00 the engine runs BRK, one byte long and without a case in the dispatcher, so only PC moves (R170). -/
theorem engineStep_of_memRead_eq_zero {s : State} (h : memRead s.mem s.pc = 0x00) :
    engineStep defaultConfig s = .running (advancePc 1 s) := by
  have hentry : defaultConfig.opcodeTable (memRead s.mem s.pc) = some (.brk, .implied) := by rw [h]; rfl
  simp only [engineStep, fetchNextAndDecode, hentry]
  exact congrArg StepOutcome.running (executeInstruction_of_not_mem (by decide) _ _ _)

/-- PC advances by `k + 1` as by one and then by `k`. -/
theorem advancePc_succ (k : Nat) (s : State) : advancePc (k + 1) s = advancePc k (advancePc 1 s) := by
  rw [advancePc, add_ofNat_succ]
  rfl

/-- Over `k` bytes 0x00 from PC on, a run under fuel `k` executes BRK at each (R81, R170). -/
theorem run_of_memRead_eq_zero {k : Nat} {s : State} (h : ∀ j < k, memRead s.mem (s.pc + BitVec.ofNat 16 j) = 0x00) :
    run defaultConfig k s = .notYetHalted (advancePc k s) := by
  induction k generalizing s with
  | zero => simp [run, advancePc]
  | succ k ih =>
    have hfirst : memRead s.mem s.pc = 0x00 := by simpa using h 0 k.succ_pos
    have hrest : ∀ j < k, memRead (advancePc 1 s).mem ((advancePc 1 s).pc + BitVec.ofNat 16 j) = 0x00 := fun j hj =>
      add_ofNat_succ s.pc j ▸ h (j + 1) (Nat.succ_lt_succ hj)
    rw [run_of_running (engineStep_of_memRead_eq_zero hfirst), ih hrest, advancePc_succ k s]
    rfl

/-- Settles O47: the bytes of the premise are the ones the run meets; after reset every byte is 0x00. -/
theorem zeroFilledMemoryNeverHalts : Obligations.ZeroFilledMemoryNeverHalts := by
  unfold Obligations.ZeroFilledMemoryNeverHalts
  refine ⟨fun k s hzero => ?zeroBytes, fun k => ?reset, fun cfg k s hbyte hentry => ?noEntry⟩
  case zeroBytes => exact run_of_memRead_eq_zero fun j hj => byteAt_toNat_add s s.pc j ▸ hzero j hj
  case reset =>
    rw [run_of_memRead_eq_zero fun _ _ => rfl, advancePc]
    simp [State.reset]
  case noEntry => exact run_of_halted (engineStep_eq_halted_iff.mpr ⟨hbyte ▸ hentry, rfl⟩)

/-- Two different distances below 2^16 from one address lead to different addresses. -/
theorem add_ofNat_ne_add_ofNat (a : Word) {j k : Nat} (hjk : j < k) (hk : k < 65536) :
    a + BitVec.ofNat 16 k ≠ a + BitVec.ofNat 16 j := by
  bv_omega

/-- Settles O48: the program is the slice read back from the entry on, and no write of it wraps as far as the rest. -/
theorem bootPlacesTheProgramAtPc : Obligations.BootPlacesTheProgramAtPc := by
  unfold Obligations.BootPlacesTheProgramAtPc
  refine ⟨fun entry program s hwf hlen => ⟨fun k hk => ?program, fun k hlow hk => ?other, ?frame⟩, ?table⟩
  case program =>
    have hread : memReadSlice (boot entry program s).mem entry program.length = program :=
      memReadSlice_memWriteSlice program entry hwf hlen
    rw [byteAt_toNat_add, ← memReadSlice_getElem? _ entry hk, hread]
  case other =>
    rw [byteAt_toNat_add, byteAt_toNat_add]
    exact memRead_memWriteSlice_other program entry s fun j hj => add_ofNat_ne_add_ofNat entry (by omega) hk
  case frame => rw [boot, memWriteSlice_frame]
  case table => decide

end Sys2Proof.Machine
end
